-- ==== Sys2Proof/Word.lean ====
section
/-! DEFINITION. Word: the widths of the OPSP-CPU's data (00_scope.md R4, 20_memory.md R80, R83). -/

namespace Sys2Proof

/-- A byte of memory. -/
abbrev Byte := BitVec 8

/-- A halfword: 16-bit data and 16-bit instructions. -/
abbrev Half := BitVec 16

/-- A word: the width of every register, address and 32-bit instruction. -/
abbrev Word := BitVec 32

/-- The stored bits of an accumulator (R50). -/
abbrev Acc56 := BitVec 56

end Sys2Proof
end

