-- ==== Sys2Proof/Syntax.lean ====
section
/-! DEFINITION. Syntax: the instructions of the OPSP-CPU, one constructor for each row of the opcode table
(30_encoding.md R130, R131), with the operands of the assembler syntax in their order (R150). -/

namespace Sys2Proof

/-- A general register number R0-R15 (R21). R15 is the stack pointer that PSW.SM selects (R22). -/
abbrev Reg := Fin 16

/-- The 4-bit control register field of MVFC and MVTC (R126). Only 0, 1, 2, 3, 5 and 6 name a register (R30);
the other numbers still match the pattern of the two instructions (R504). -/
abbrev CrNum := Fin 16

/-- A coprocessor id (R450). -/
abbrev CpNum := Fin 16

/-- A coprocessor register number (R450). -/
abbrev CpReg := Fin 16

/-- The two accumulators (R50). -/
inductive Acc where
  | a0
  | a1
deriving DecidableEq, Repr

/-- The 135 instruction forms. A displacement or immediate is the raw field; how it is extended is in
Machine/Operands.lean. `imm1` of RAC and RACH is the assembler value, 1 or 2 (R127). -/
inductive Instr where
  -- 16-bit instructions, op1 = 0000: arithmetic, compare and logic (R130)
  /-- `SUBV Rdest,Rsrc` (R268) -/
  | subv (dest src : Reg)
  /-- `SUBX Rdest,Rsrc` (R269) -/
  | subx (dest src : Reg)
  /-- `SUB Rdest,Rsrc` (R267) -/
  | sub (dest src : Reg)
  /-- `NEG Rdest,Rsrc` (R266) -/
  | neg (dest src : Reg)
  /-- `CMP Rsrc1,Rsrc2` (R250) -/
  | cmp (src1 src2 : Reg)
  /-- `CMPU Rsrc1,Rsrc2` (R253) -/
  | cmpu (src1 src2 : Reg)
  /-- `CMPEQ Rsrc1,Rsrc2` (R251) -/
  | cmpeq (src1 src2 : Reg)
  /-- `CMPZ Rsrc` (R255) -/
  | cmpz (src : Reg)
  /-- `ADDV Rdest,Rsrc` (R263) -/
  | addv (dest src : Reg)
  /-- `ADDX Rdest,Rsrc` (R265) -/
  | addx (dest src : Reg)
  /-- `ADD Rdest,Rsrc` (R260) -/
  | add (dest src : Reg)
  /-- `NOT Rdest,Rsrc` (R272) -/
  | not (dest src : Reg)
  /-- `AND Rdest,Rsrc` (R270) -/
  | and (dest src : Reg)
  /-- `XOR Rdest,Rsrc` (R275) -/
  | xor (dest src : Reg)
  /-- `OR Rdest,Rsrc` (R273) -/
  | or (dest src : Reg)
  /-- `BTST #bitpos,Rsrc` (R382) -/
  | btst (bitpos : Fin 8) (src : Reg)
  /-- `PCMPBZ Rsrc` (R256) -/
  | pcmpbz (src : Reg)
  -- 16-bit, op1 = 0001
  /-- `SRL Rdest,Rsrc` (R326) -/
  | srl (dest src : Reg)
  /-- `SRA Rdest,Rsrc` (R323) -/
  | sra (dest src : Reg)
  /-- `SLL Rdest,Rsrc` (R320) -/
  | sll (dest src : Reg)
  /-- `MUL Rdest,Rsrc` (R306) -/
  | mul (dest src : Reg)
  /-- `MV Rdest,Rsrc` (R232) -/
  | mv (dest src : Reg)
  /-- `MVFC Rdest,CRsrc` (R233) -/
  | mvfc (dest : Reg) (cr : CrNum)
  /-- `MVTC Rsrc,CRdest` (R234) -/
  | mvtc (src : Reg) (cr : CrNum)
  /-- `RTE` (R386) -/
  | rte
  /-- `TRAP #imm4` (R385) -/
  | trap (imm4 : Fin 16)
  /-- `JC Rsrc` (R356) -/
  | jc (src : Reg)
  /-- `JNC Rsrc` (R359) -/
  | jnc (src : Reg)
  /-- `JL Rsrc` (R357) -/
  | jl (src : Reg)
  /-- `JMP Rsrc` (R358) -/
  | jmp (src : Reg)
  -- 16-bit, op1 = 0010: loads and stores
  /-- `STB Rsrc1,@Rsrc2` (R207) -/
  | stb (src1 src2 : Reg)
  /-- `STB Rsrc1,@Rsrc2+` (R207) -/
  | stbInc (src1 src2 : Reg)
  /-- `STH Rsrc1,@Rsrc2` (R208) -/
  | sth (src1 src2 : Reg)
  /-- `STH Rsrc1,@Rsrc2+` (R208) -/
  | sthInc (src1 src2 : Reg)
  /-- `ST Rsrc1,@Rsrc2` (R206) -/
  | st (src1 src2 : Reg)
  /-- `UNLOCK Rsrc1,@Rsrc2` (R209) -/
  | unlock (src1 src2 : Reg)
  /-- `ST Rsrc1,@+Rsrc2` (R206) -/
  | stPreInc (src1 src2 : Reg)
  /-- `ST Rsrc1,@-Rsrc2` (R206) -/
  | stPreDec (src1 src2 : Reg)
  /-- `LDB Rdest,@Rsrc` (R201) -/
  | ldb (dest src : Reg)
  /-- `LDUB Rdest,@Rsrc` (R202) -/
  | ldub (dest src : Reg)
  /-- `LDH Rdest,@Rsrc` (R203) -/
  | ldh (dest src : Reg)
  /-- `LDUH Rdest,@Rsrc` (R204) -/
  | lduh (dest src : Reg)
  /-- `LD Rdest,@Rsrc` (R200) -/
  | ld (dest src : Reg)
  /-- `LOCK Rdest,@Rsrc` (R205) -/
  | lock (dest src : Reg)
  /-- `LD Rdest,@Rsrc+` (R200) -/
  | ldInc (dest src : Reg)
  -- 16-bit, op1 = 0011: multiply and accumulate
  /-- `MULHI Rsrc1,Rsrc2,Adest` (R407) -/
  | mulhi (src1 src2 : Reg) (acc : Acc)
  /-- `MULLO Rsrc1,Rsrc2,Adest` (R408) -/
  | mullo (src1 src2 : Reg) (acc : Acc)
  /-- `MULWHI Rsrc1,Rsrc2` (R409) -/
  | mulwhi (src1 src2 : Reg)
  /-- `MULWLO Rsrc1,Rsrc2` (R410) -/
  | mulwlo (src1 src2 : Reg)
  /-- `MACHI Rsrc1,Rsrc2,Adest` (R400) -/
  | machi (src1 src2 : Reg) (acc : Acc)
  /-- `MACLO Rsrc1,Rsrc2,Adest` (R402) -/
  | maclo (src1 src2 : Reg) (acc : Acc)
  /-- `MACWHI Rsrc1,Rsrc2` (R403) -/
  | macwhi (src1 src2 : Reg)
  /-- `MACWLO Rsrc1,Rsrc2` (R404) -/
  | macwlo (src1 src2 : Reg)
  -- 16-bit, op1 = 0100 and 0101
  /-- `ADDI Rdest,#imm8` (R262) -/
  | addi (dest : Reg) (imm8 : BitVec 8)
  /-- `SRLI Rdest,#imm5` (R328) -/
  | srli (dest : Reg) (imm5 : BitVec 5)
  /-- `SRAI Rdest,#imm5` (R325) -/
  | srai (dest : Reg) (imm5 : BitVec 5)
  /-- `SLLI Rdest,#imm5` (R322) -/
  | slli (dest : Reg) (imm5 : BitVec 5)
  /-- `MVTACHI Rsrc,Adest` (R415) -/
  | mvtachi (src : Reg) (acc : Acc)
  /-- `MVTACLO Rsrc,Adest` (R416) -/
  | mvtaclo (src : Reg) (acc : Acc)
  /-- `RACH Adest,Asrc,#imm1` (R418) -/
  | rach (adest asrc : Acc) (imm1 : Nat)
  /-- `RAC Adest,Asrc,#imm1` (R417) -/
  | rac (adest asrc : Acc) (imm1 : Nat)
  /-- `MULWU1 Rsrc1,Rsrc2` (R411) -/
  | mulwu1 (src1 src2 : Reg)
  /-- `MACWU1 Rsrc1,Rsrc2` (R405) -/
  | macwu1 (src1 src2 : Reg)
  /-- `MACLH1 Rsrc1,Rsrc2` (R401) -/
  | maclh1 (src1 src2 : Reg)
  /-- `MSBLO Rsrc1,Rsrc2` (R406) -/
  | msblo (src1 src2 : Reg)
  /-- `SADD` (R419) -/
  | sadd
  /-- `MVFACHI Rdest,Asrc` (R412) -/
  | mvfachi (dest : Reg) (acc : Acc)
  /-- `MVFACLO Rdest,Asrc` (R413) -/
  | mvfaclo (dest : Reg) (acc : Acc)
  /-- `MVFACMI Rdest,Asrc` (R414) -/
  | mvfacmi (dest : Reg) (acc : Acc)
  -- 16-bit, op1 = 0110 and 0111
  /-- `LDI Rdest,#imm8` (R231) -/
  | ldi8 (dest : Reg) (imm8 : BitVec 8)
  /-- `NOP` (R360) -/
  | nop
  /-- `SETPSW #imm8` (R384) -/
  | setpsw (imm8 : BitVec 8)
  /-- `CLRPSW #imm8` (R383) -/
  | clrpsw (imm8 : BitVec 8)
  /-- `SC` (R361) -/
  | sc
  /-- `SNC` (R362) -/
  | snc
  /-- `BCL pcdisp8` (R343) -/
  | bcl8 (pcdisp8 : BitVec 8)
  /-- `BNCL pcdisp8` (R352) -/
  | bncl8 (pcdisp8 : BitVec 8)
  /-- `BC pcdisp8` (R342) -/
  | bc8 (pcdisp8 : BitVec 8)
  /-- `BNC pcdisp8` (R351) -/
  | bnc8 (pcdisp8 : BitVec 8)
  /-- `BL pcdisp8` (R348) -/
  | bl8 (pcdisp8 : BitVec 8)
  /-- `BRA pcdisp8` (R355) -/
  | bra8 (pcdisp8 : BitVec 8)
  -- 32-bit instructions (R131)
  /-- `CMPI Rsrc,#imm16` (R252) -/
  | cmpi (src : Reg) (imm16 : BitVec 16)
  /-- `CMPUI Rsrc,#imm16` (R254) -/
  | cmpui (src : Reg) (imm16 : BitVec 16)
  /-- `SATH Rdest,Rsrc` (R421) -/
  | sath (dest src : Reg)
  /-- `SATB Rdest,Rsrc` (R420) -/
  | satb (dest src : Reg)
  /-- `ADDV3 Rdest,Rsrc,#imm16` (R264) -/
  | addv3 (dest src : Reg) (imm16 : BitVec 16)
  /-- `ADD3 Rdest,Rsrc,#imm16` (R261) -/
  | add3 (dest src : Reg) (imm16 : BitVec 16)
  /-- `AND3 Rdest,Rsrc,#imm16` (R271) -/
  | and3 (dest src : Reg) (imm16 : BitVec 16)
  /-- `XOR3 Rdest,Rsrc,#imm16` (R276) -/
  | xor3 (dest src : Reg) (imm16 : BitVec 16)
  /-- `OR3 Rdest,Rsrc,#imm16` (R274) -/
  | or3 (dest src : Reg) (imm16 : BitVec 16)
  /-- `DIV Rdest,Rsrc` (R300) -/
  | div (dest src : Reg)
  /-- `DIVH Rdest,Rsrc` (R302) -/
  | divh (dest src : Reg)
  /-- `DIVB Rdest,Rsrc` (R301) -/
  | divb (dest src : Reg)
  /-- `DIVU Rdest,Rsrc` (R303) -/
  | divu (dest src : Reg)
  /-- `DIVUH Rdest,Rsrc` (R305) -/
  | divuh (dest src : Reg)
  /-- `DIVUB Rdest,Rsrc` (R304) -/
  | divub (dest src : Reg)
  /-- `REM Rdest,Rsrc` (R307) -/
  | rem (dest src : Reg)
  /-- `REMH Rdest,Rsrc` (R309) -/
  | remh (dest src : Reg)
  /-- `REMB Rdest,Rsrc` (R308) -/
  | remb (dest src : Reg)
  /-- `REMU Rdest,Rsrc` (R310) -/
  | remu (dest src : Reg)
  /-- `REMUH Rdest,Rsrc` (R312) -/
  | remuh (dest src : Reg)
  /-- `REMUB Rdest,Rsrc` (R311) -/
  | remub (dest src : Reg)
  /-- `SRL3 Rdest,Rsrc,#imm16` (R327) -/
  | srl3 (dest src : Reg) (imm16 : BitVec 16)
  /-- `SRA3 Rdest,Rsrc,#imm16` (R324) -/
  | sra3 (dest src : Reg) (imm16 : BitVec 16)
  /-- `SLL3 Rdest,Rsrc,#imm16` (R321) -/
  | sll3 (dest src : Reg) (imm16 : BitVec 16)
  /-- `LDI Rdest,#imm16` (R231) -/
  | ldi16 (dest : Reg) (imm16 : BitVec 16)
  /-- `STB Rsrc1,@(disp16,Rsrc2)` (R207) -/
  | stbDisp (src1 src2 : Reg) (disp16 : BitVec 16)
  /-- `STH Rsrc1,@(disp16,Rsrc2)` (R208) -/
  | sthDisp (src1 src2 : Reg) (disp16 : BitVec 16)
  /-- `ST Rsrc1,@(disp16,Rsrc2)` (R206) -/
  | stDisp (src1 src2 : Reg) (disp16 : BitVec 16)
  /-- `BSET #bitpos,@(disp16,Rsrc)` (R381) -/
  | bset (bitpos : Fin 8) (src : Reg) (disp16 : BitVec 16)
  /-- `BCLR #bitpos,@(disp16,Rsrc)` (R380) -/
  | bclr (bitpos : Fin 8) (src : Reg) (disp16 : BitVec 16)
  /-- `LDB Rdest,@(disp16,Rsrc)` (R201) -/
  | ldbDisp (dest src : Reg) (disp16 : BitVec 16)
  /-- `LDUB Rdest,@(disp16,Rsrc)` (R202) -/
  | ldubDisp (dest src : Reg) (disp16 : BitVec 16)
  /-- `LDH Rdest,@(disp16,Rsrc)` (R203) -/
  | ldhDisp (dest src : Reg) (disp16 : BitVec 16)
  /-- `LDUH Rdest,@(disp16,Rsrc)` (R204) -/
  | lduhDisp (dest src : Reg) (disp16 : BitVec 16)
  /-- `LD Rdest,@(disp16,Rsrc)` (R200) -/
  | ldDisp (dest src : Reg) (disp16 : BitVec 16)
  /-- `BEQ Rsrc1,Rsrc2,pcdisp16` (R344) -/
  | beq (src1 src2 : Reg) (pcdisp16 : BitVec 16)
  /-- `BNE Rsrc1,Rsrc2,pcdisp16` (R353) -/
  | bne (src1 src2 : Reg) (pcdisp16 : BitVec 16)
  /-- `BEQZ Rsrc,pcdisp16` (R345) -/
  | beqz (src : Reg) (pcdisp16 : BitVec 16)
  /-- `BNEZ Rsrc,pcdisp16` (R354) -/
  | bnez (src : Reg) (pcdisp16 : BitVec 16)
  /-- `BLTZ Rsrc,pcdisp16` (R350) -/
  | bltz (src : Reg) (pcdisp16 : BitVec 16)
  /-- `BGEZ Rsrc,pcdisp16` (R346) -/
  | bgez (src : Reg) (pcdisp16 : BitVec 16)
  /-- `BLEZ Rsrc,pcdisp16` (R349) -/
  | blez (src : Reg) (pcdisp16 : BitVec 16)
  /-- `BGTZ Rsrc,pcdisp16` (R347) -/
  | bgtz (src : Reg) (pcdisp16 : BitVec 16)
  /-- `MVFCP Rdest,CPRsrc,inst,cpid` (R452) -/
  | mvfcp (dest : Reg) (cpr : CpReg) (inst : BitVec 8) (cpid : CpNum)
  /-- `MVTCP Rsrc,CPRdest,inst,cpid` (R451) -/
  | mvtcp (src : Reg) (cpr : CpReg) (inst : BitVec 8) (cpid : CpNum)
  /-- `OPECP CPRdest,CPRsrc,inst,cpid` (R453) -/
  | opecp (cpdest cpsrc : CpReg) (inst : BitVec 8) (cpid : CpNum)
  /-- `SETH Rdest,#imm16` (R235) -/
  | seth (dest : Reg) (imm16 : BitVec 16)
  /-- `LD24 Rdest,#imm24` (R230) -/
  | ld24 (dest : Reg) (imm24 : BitVec 24)
  /-- `BCL pcdisp24` (R343) -/
  | bcl24 (pcdisp24 : BitVec 24)
  /-- `BNCL pcdisp24` (R352) -/
  | bncl24 (pcdisp24 : BitVec 24)
  /-- `BC pcdisp24` (R342) -/
  | bc24 (pcdisp24 : BitVec 24)
  /-- `BNC pcdisp24` (R351) -/
  | bnc24 (pcdisp24 : BitVec 24)
  /-- `BL pcdisp24` (R348) -/
  | bl24 (pcdisp24 : BitVec 24)
  /-- `BRA pcdisp24` (R355) -/
  | bra24 (pcdisp24 : BitVec 24)
deriving DecidableEq, Repr

end Sys2Proof
end

