-- ==== Sys2Proof/WellFormed.lean ====
section
/-! DEFINITION. WellFormed: the instructions an assembler may write. Every operand but one has a type that holds
exactly the values its field can name; the shift count `imm1` of RAC and RACH is 1 or 2 (30_encoding.md R127,
46_dsp.md R417, R418). -/

namespace Sys2Proof

/-- The shift count of RAC and RACH is 1 or 2 (R127). -/
def imm1Ok (n : Nat) : Bool := n == 1 || n == 2

/-- The instruction can be written and encoded. -/
def Instr.wf : Instr → Bool
  | .rac _ _ imm1 => imm1Ok imm1
  | .rach _ _ imm1 => imm1Ok imm1
  | .subv .. | .subx .. | .sub .. | .neg .. | .cmp .. | .cmpu .. | .cmpeq .. | .cmpz ..
  | .addv .. | .addx .. | .add .. | .not .. | .and .. | .xor .. | .or .. | .btst ..
  | .pcmpbz .. | .srl .. | .sra .. | .sll .. | .mul .. | .mv .. | .mvfc .. | .mvtc ..
  | .rte | .trap .. | .jc .. | .jnc .. | .jl .. | .jmp .. | .stb .. | .stbInc ..
  | .sth .. | .sthInc .. | .st .. | .unlock .. | .stPreInc .. | .stPreDec .. | .ldb .. | .ldub ..
  | .ldh .. | .lduh .. | .ld .. | .lock .. | .ldInc .. | .mulhi .. | .mullo .. | .mulwhi ..
  | .mulwlo .. | .machi .. | .maclo .. | .macwhi .. | .macwlo .. | .addi .. | .srli .. | .srai ..
  | .slli .. | .mvtachi .. | .mvtaclo .. | .mulwu1 .. | .macwu1 .. | .maclh1 .. | .msblo .. | .sadd
  | .mvfachi .. | .mvfaclo .. | .mvfacmi .. | .ldi8 .. | .nop | .setpsw .. | .clrpsw .. | .sc
  | .snc | .bcl8 .. | .bncl8 .. | .bc8 .. | .bnc8 .. | .bl8 .. | .bra8 .. | .cmpi ..
  | .cmpui .. | .sath .. | .satb .. | .addv3 .. | .add3 .. | .and3 .. | .xor3 .. | .or3 ..
  | .div .. | .divh .. | .divb .. | .divu .. | .divuh .. | .divub .. | .rem .. | .remh ..
  | .remb .. | .remu .. | .remuh .. | .remub .. | .srl3 .. | .sra3 .. | .sll3 .. | .ldi16 ..
  | .stbDisp .. | .sthDisp .. | .stDisp .. | .bset .. | .bclr .. | .ldbDisp .. | .ldubDisp .. | .ldhDisp ..
  | .lduhDisp .. | .ldDisp .. | .beq .. | .bne .. | .beqz .. | .bnez .. | .bltz .. | .bgez ..
  | .blez .. | .bgtz .. | .mvfcp .. | .mvtcp .. | .opecp .. | .seth .. | .ld24 .. | .bcl24 ..
  | .bncl24 .. | .bc24 .. | .bnc24 .. | .bl24 .. | .bra24 .. => true

end Sys2Proof
end

