-- ==== Sys2Proof/Decode.lean ====
section
/-! DEFINITION. Decode: the strict decoder of 30_encoding.md (R120-R132, R145), the encoder written from the same
tables, and the pipe category of each instruction (R148). Slices are LSB-0 (R6). -/

namespace Sys2Proof

/-- Why a bit pattern is no instruction. In a running machine the first two raise RIE (R145). -/
inductive DecodeError where
  /-- a halfword that matches no 16-bit row -/
  | reserved16
  /-- a word that matches no 32-bit row -/
  | reserved32
  /-- fewer bytes than the instruction needs -/
  | truncated
deriving DecidableEq, Repr

/-- The four bits of `v` from bit `lo` up. -/
def nib {n : Nat} (v : BitVec n) (lo : Nat) : BitVec 4 := v.extractLsb' lo 4

/-- A 4-bit register field (R125). -/
def regOf (b : BitVec 4) : Fin 16 := b.toFin

/-- A 2-bit accumulator field: 00 is A0, 01 is A1, the others are not assigned (R129). -/
def accOf (b : BitVec 2) : Option Acc :=
  match b.toNat with
  | 0 => some .a0
  | 1 => some .a1
  | _ => none

/-- op1 = 0000 (R130). `d`, `e`, `f` are `h[11:8]`, `h[7:4]`, `h[3:0]`. -/
def decodeOp0 (d e f : BitVec 4) : Option Instr :=
  match e.toNat with
  | 0 => some (.subv (regOf d) (regOf f))
  | 1 => some (.subx (regOf d) (regOf f))
  | 2 => some (.sub (regOf d) (regOf f))
  | 3 => some (.neg (regOf d) (regOf f))
  | 4 => some (.cmp (regOf d) (regOf f))
  | 5 => some (.cmpu (regOf d) (regOf f))
  | 6 => some (.cmpeq (regOf d) (regOf f))
  | 7 =>
    match d.toNat with
    | 0 => some (.cmpz (regOf f))
    | 3 => some (.pcmpbz (regOf f))
    | _ => none
  | 8 => some (.addv (regOf d) (regOf f))
  | 9 => some (.addx (regOf d) (regOf f))
  | 10 => some (.add (regOf d) (regOf f))
  | 11 => some (.not (regOf d) (regOf f))
  | 12 => some (.and (regOf d) (regOf f))
  | 13 => some (.xor (regOf d) (regOf f))
  | 14 => some (.or (regOf d) (regOf f))
  | _ => if d.getLsbD 3 then none else some (.btst (d.extractLsb' 0 3).toFin (regOf f))

/-- op1 = 0001 (R130). -/
def decodeOp1 (d e f : BitVec 4) : Option Instr :=
  match e.toNat with
  | 0 => some (.srl (regOf d) (regOf f))
  | 2 => some (.sra (regOf d) (regOf f))
  | 4 => some (.sll (regOf d) (regOf f))
  | 6 => some (.mul (regOf d) (regOf f))
  | 8 => some (.mv (regOf d) (regOf f))
  | 9 => some (.mvfc (regOf d) (regOf f))
  | 10 => some (.mvtc (regOf f) (regOf d))
  | 12 =>
    match d.toNat with
    | 12 => some (.jc (regOf f))
    | 13 => some (.jnc (regOf f))
    | 14 => some (.jl (regOf f))
    | 15 => some (.jmp (regOf f))
    | _ => none
  | 13 => if d = 0 ∧ f = 6 then some .rte else none
  | 15 => if d = 0 then some (.trap (regOf f)) else none
  | _ => none

/-- op1 = 0010: loads and stores (R130). -/
def decodeOp2 (d e f : BitVec 4) : Option Instr :=
  match e.toNat with
  | 0 => some (.stb (regOf d) (regOf f))
  | 1 => some (.stbInc (regOf d) (regOf f))
  | 2 => some (.sth (regOf d) (regOf f))
  | 3 => some (.sthInc (regOf d) (regOf f))
  | 4 => some (.st (regOf d) (regOf f))
  | 5 => some (.unlock (regOf d) (regOf f))
  | 6 => some (.stPreInc (regOf d) (regOf f))
  | 7 => some (.stPreDec (regOf d) (regOf f))
  | 8 => some (.ldb (regOf d) (regOf f))
  | 9 => some (.ldub (regOf d) (regOf f))
  | 10 => some (.ldh (regOf d) (regOf f))
  | 11 => some (.lduh (regOf d) (regOf f))
  | 12 => some (.ld (regOf d) (regOf f))
  | 13 => some (.lock (regOf d) (regOf f))
  | 14 => some (.ldInc (regOf d) (regOf f))
  | _ => none

/-- op1 = 0011: multiply and accumulate (R130). The bit `h[7]` is an accumulator number where `h[6:4]` is 000, 001,
100 or 101 (R129) and a fixed 0 elsewhere. -/
def decodeOp3 (d e f : BitVec 4) : Option Instr :=
  match e.toNat with
  | 0 => some (.mulhi (regOf d) (regOf f) .a0)
  | 1 => some (.mullo (regOf d) (regOf f) .a0)
  | 2 => some (.mulwhi (regOf d) (regOf f))
  | 3 => some (.mulwlo (regOf d) (regOf f))
  | 4 => some (.machi (regOf d) (regOf f) .a0)
  | 5 => some (.maclo (regOf d) (regOf f) .a0)
  | 6 => some (.macwhi (regOf d) (regOf f))
  | 7 => some (.macwlo (regOf d) (regOf f))
  | 8 => some (.mulhi (regOf d) (regOf f) .a1)
  | 9 => some (.mullo (regOf d) (regOf f) .a1)
  | 12 => some (.machi (regOf d) (regOf f) .a1)
  | 13 => some (.maclo (regOf d) (regOf f) .a1)
  | _ => none

/-- RAC and RACH: `dd00` in `d`, `ss0i` in `f`, imm1 = i + 1 (R129). -/
def decodeRound (mk : Acc → Acc → Nat → Instr) (d f : BitVec 4) : Option Instr :=
  if d.extractLsb' 0 2 = 0 ∧ f.getLsbD 1 = false then
    match accOf (d.extractLsb' 2 2), accOf (f.extractLsb' 2 2) with
    | some ad, some as => some (mk ad as ((f.extractLsb' 0 1).toNat + 1))
    | _, _ => none
  else none

/-- The accumulator transfers: `aaxx` in `f` (R129). -/
def decodeMvtac (d f : BitVec 4) : Option Instr :=
  match accOf (f.extractLsb' 2 2), (f.extractLsb' 0 2).toNat with
  | some a, 0 => some (.mvtachi (regOf d) a)
  | some a, 1 => some (.mvtaclo (regOf d) a)
  | _, _ => none

/-- MVFACHI, MVFACLO, MVFACMI: `aaxx` in `f` (R129). -/
def decodeMvfac (d f : BitVec 4) : Option Instr :=
  match accOf (f.extractLsb' 2 2), (f.extractLsb' 0 2).toNat with
  | some a, 0 => some (.mvfachi (regOf d) a)
  | some a, 1 => some (.mvfaclo (regOf d) a)
  | some a, 2 => some (.mvfacmi (regOf d) a)
  | _, _ => none

/-- op1 = 0101: immediate shifts and accumulator forms (R130). -/
def decodeOp5 (d e f : BitVec 4) : Option Instr :=
  match (e.extractLsb' 1 3).toNat with
  | 0 => some (.srli (regOf d) (e.extractLsb' 0 1 ++ f))
  | 1 => some (.srai (regOf d) (e.extractLsb' 0 1 ++ f))
  | 2 => some (.slli (regOf d) (e.extractLsb' 0 1 ++ f))
  | _ =>
    match e.toNat with
    | 7 => decodeMvtac d f
    | 8 => decodeRound .rach d f
    | 9 => decodeRound .rac d f
    | 10 => some (.mulwu1 (regOf d) (regOf f))
    | 11 => some (.macwu1 (regOf d) (regOf f))
    | 12 => some (.maclh1 (regOf d) (regOf f))
    | 13 => some (.msblo (regOf d) (regOf f))
    | 14 => if d = 0 ∧ f = 4 then some .sadd else none
    | 15 => decodeMvfac d f
    | _ => none

/-- op1 = 0111: NOP, PSW immediates, skips and 8-bit branches (R130, R132). -/
def decodeOp7 (d e f : BitVec 4) : Option Instr :=
  match d.toNat with
  | 0 => if e = 0 ∧ f = 0 then some .nop else none
  | 1 => some (.setpsw (e ++ f))
  | 2 => some (.clrpsw (e ++ f))
  | 4 => if e = 0 ∧ f = 1 then some .sc else none
  | 5 => if e = 0 ∧ f = 1 then some .snc else none
  | 8 => some (.bcl8 (e ++ f))
  | 9 => some (.bncl8 (e ++ f))
  | 12 => some (.bc8 (e ++ f))
  | 13 => some (.bnc8 (e ++ f))
  | 14 => some (.bl8 (e ++ f))
  | 15 => some (.bra8 (e ++ f))
  | _ => none

/-- The 16-bit instruction with op1 = `op` and the nibbles `d e f` (R130). -/
def decodeNibbles (op d e f : BitVec 4) : Option Instr :=
  match (op.extractLsb' 0 3).toNat with
  | 0 => decodeOp0 d e f
  | 1 => decodeOp1 d e f
  | 2 => decodeOp2 d e f
  | 3 => decodeOp3 d e f
  | 4 => some (.addi (regOf d) (e ++ f))
  | 5 => decodeOp5 d e f
  | 6 => some (.ldi8 (regOf d) (e ++ f))
  | _ => decodeOp7 d e f

/-- The 16-bit instruction in a halfword. Bit 15 chooses the execution method and is read as 0 (R121, R122). -/
def decode16 (h : Half) : Except DecodeError Instr :=
  match decodeNibbles (nib h 12) (nib h 8) (nib h 4) (nib h 0) with
  | some i => .ok i
  | none => .error .reserved16

/-- op1 = 1000 (R131). `d`, `e`, `f` are `w[27:24]`, `w[23:20]`, `w[19:16]`; `c` is `w[15:0]`. -/
def decodeOp8 (d e f : BitVec 4) (c : BitVec 16) : Option Instr :=
  match e.toNat with
  | 4 => if d = 0 then some (.cmpi (regOf f) c) else none
  | 5 => if d = 0 then some (.cmpui (regOf f) c) else none
  | 6 =>
    match c.toNat with
    | 0x0300 => some (.satb (regOf d) (regOf f))
    | 0x0200 => some (.sath (regOf d) (regOf f))
    | _ => none
  | 8 => some (.addv3 (regOf d) (regOf f) c)
  | 10 => some (.add3 (regOf d) (regOf f) c)
  | 12 => some (.and3 (regOf d) (regOf f) c)
  | 13 => some (.xor3 (regOf d) (regOf f) c)
  | 14 => some (.or3 (regOf d) (regOf f) c)
  | _ => none

/-- The second halfword of a divide or remainder: 0x0000 word, 0x0010 halfword, 0x0018 byte (R313). -/
def decodeDiv (c : BitVec 16) (word half byte : Instr) : Option Instr :=
  match c.toNat with
  | 0x0000 => some word
  | 0x0010 => some half
  | 0x0018 => some byte
  | _ => none

/-- op1 = 1001 (R131). -/
def decodeOp9 (d e f : BitVec 4) (c : BitVec 16) : Option Instr :=
  match e.toNat with
  | 0 => decodeDiv c (.div (regOf d) (regOf f)) (.divh (regOf d) (regOf f)) (.divb (regOf d) (regOf f))
  | 1 => decodeDiv c (.divu (regOf d) (regOf f)) (.divuh (regOf d) (regOf f)) (.divub (regOf d) (regOf f))
  | 2 => decodeDiv c (.rem (regOf d) (regOf f)) (.remh (regOf d) (regOf f)) (.remb (regOf d) (regOf f))
  | 3 => decodeDiv c (.remu (regOf d) (regOf f)) (.remuh (regOf d) (regOf f)) (.remub (regOf d) (regOf f))
  | 8 => some (.srl3 (regOf d) (regOf f) c)
  | 10 => some (.sra3 (regOf d) (regOf f) c)
  | 12 => some (.sll3 (regOf d) (regOf f) c)
  | 15 => if f = 0 then some (.ldi16 (regOf d) c) else none
  | _ => none

/-- op1 = 1010: loads, stores and bit operations with displacement (R131). -/
def decodeOpA (d e f : BitVec 4) (c : BitVec 16) : Option Instr :=
  match e.toNat with
  | 0 => some (.stbDisp (regOf d) (regOf f) c)
  | 2 => some (.sthDisp (regOf d) (regOf f) c)
  | 4 => some (.stDisp (regOf d) (regOf f) c)
  | 6 => if d.getLsbD 3 then none else some (.bset (d.extractLsb' 0 3).toFin (regOf f) c)
  | 7 => if d.getLsbD 3 then none else some (.bclr (d.extractLsb' 0 3).toFin (regOf f) c)
  | 8 => some (.ldbDisp (regOf d) (regOf f) c)
  | 9 => some (.ldubDisp (regOf d) (regOf f) c)
  | 10 => some (.ldhDisp (regOf d) (regOf f) c)
  | 11 => some (.lduhDisp (regOf d) (regOf f) c)
  | 12 => some (.ldDisp (regOf d) (regOf f) c)
  | _ => none

/-- The compare-with-zero branches: op1 = 1011, `w[27:24]` = 0000 (R131). -/
def decodeBranchZero (e f : BitVec 4) (c : BitVec 16) : Option Instr :=
  match e.toNat with
  | 8 => some (.beqz (regOf f) c)
  | 9 => some (.bnez (regOf f) c)
  | 10 => some (.bltz (regOf f) c)
  | 11 => some (.bgez (regOf f) c)
  | 12 => some (.blez (regOf f) c)
  | 13 => some (.bgtz (regOf f) c)
  | _ => none

/-- op1 = 1011: compare and branch (R131). -/
def decodeOpB (d e f : BitVec 4) (c : BitVec 16) : Option Instr :=
  match e.toNat with
  | 0 => some (.beq (regOf d) (regOf f) c)
  | 1 => some (.bne (regOf d) (regOf f) c)
  | _ => if d = 0 then decodeBranchZero e f c else none

/-- op1 = 1101: coprocessor forms and SETH (R131). `cpid` is `w[15:12]`, `w[11:8]` is 0000, `inst` is `w[7:0]`
(R450, D16). -/
def decodeOpD (d e f : BitVec 4) (c : BitVec 16) : Option Instr :=
  match e.toNat with
  | 5 => if nib c 8 = 0 then some (.mvfcp (regOf d) (regOf f) (c.extractLsb' 0 8) (regOf (nib c 12))) else none
  | 6 => if nib c 8 = 0 then some (.mvtcp (regOf d) (regOf f) (c.extractLsb' 0 8) (regOf (nib c 12))) else none
  | 7 => if nib c 8 = 0 then some (.opecp (regOf d) (regOf f) (c.extractLsb' 0 8) (regOf (nib c 12))) else none
  | 12 => if f = 0 then some (.seth (regOf d) c) else none
  | _ => none

/-- op1 = 1111: branches with a 24-bit displacement (R131, R132). -/
def decodeOpF (d : BitVec 4) (c : BitVec 24) : Option Instr :=
  match d.toNat with
  | 8 => some (.bcl24 c)
  | 9 => some (.bncl24 c)
  | 12 => some (.bc24 c)
  | 13 => some (.bnc24 c)
  | 14 => some (.bl24 c)
  | 15 => some (.bra24 c)
  | _ => none

/-- The 32-bit instruction with the upper nibbles `op d e f` and the lower halfword `c` (R131). -/
def decodeFields (op d e f : BitVec 4) (c : BitVec 16) : Option Instr :=
  match op.toNat with
  | 8 => decodeOp8 d e f c
  | 9 => decodeOp9 d e f c
  | 10 => decodeOpA d e f c
  | 11 => decodeOpB d e f c
  | 13 => decodeOpD d e f c
  | 14 => some (.ld24 (regOf d) (e ++ f ++ c))
  | 15 => decodeOpF d (e ++ f ++ c)
  | _ => none

/-- The 32-bit instruction in a word. Its bit 31 is 1 (R121). -/
def decode32 (w : Word) : Except DecodeError Instr :=
  match decodeFields (nib w 28) (nib w 24) (nib w 20) (nib w 16) (w.extractLsb' 0 16) with
  | some i => .ok i
  | none => .error .reserved32

/-- An encoded instruction: one halfword or one word (R120). -/
inductive Code where
  | half (h : Half)
  | word (w : Word)
deriving DecidableEq, Repr

/-- Decode an encoded instruction. -/
def decode : Code → Except DecodeError Instr
  | .half h => decode16 h
  | .word w => decode32 w

/-- Decode from bytes, the lowest address first, most significant byte first (R84): the first bit tells the length
(R121, R122). -/
def decodeBytes : List Byte → Except DecodeError Instr
  | b0 :: b1 :: rest =>
    if b0.getLsbD 7 then
      match rest with
      | b2 :: b3 :: _ => decode32 (b0 ++ b1 ++ b2 ++ b3)
      | _ => .error .truncated
    else decode16 (b0 ++ b1)
  | _ => .error .truncated

/-- A halfword from its four nibbles. -/
def half4 (op d e f : BitVec 4) : Code := .half (op ++ d ++ e ++ f)

/-- A halfword with an 8-bit immediate. -/
def halfImm8 (op d : BitVec 4) (c : BitVec 8) : Code := .half (op ++ d ++ c)

/-- A word from its four upper nibbles and its lower halfword. -/
def word4 (op d e f : BitVec 4) (c : BitVec 16) : Code := .word (op ++ d ++ e ++ f ++ c)

/-- A word with a 24-bit immediate. -/
def wordImm24 (op d : BitVec 4) (c : BitVec 24) : Code := .word (op ++ d ++ c)

/-- A register number as a field. -/
def regBits (r : Fin 16) : BitVec 4 := BitVec.ofFin r

/-- A bit position as `0bbb` (R127). -/
def bitposBits (b : Fin 8) : BitVec 4 := 0#1 ++ (BitVec.ofFin b : BitVec 3)

/-- An accumulator as its 2-bit field (R129). -/
def accBits : Acc → BitVec 2
  | .a0 => 0
  | .a1 => 1

/-- The nibble `axxx` of MULHI, MULLO, MACHI, MACLO (R129). -/
def accOpBits (a : Acc) (op : BitVec 3) : BitVec 4 := (accBits a).extractLsb' 0 1 ++ op

/-- RAC and RACH (R129). -/
def roundCode (op : BitVec 4) (ad as : Acc) (imm1 : Nat) : Code :=
  half4 5 (accBits ad ++ 0#2) op (accBits as ++ 0#1 ++ BitVec.ofNat 1 (imm1 - 1))

/-- An immediate shift (R123, 16-RI5). -/
def shiftCode (d : BitVec 4) (op : BitVec 3) (imm5 : BitVec 5) : Code :=
  half4 5 d (op ++ imm5.extractLsb' 4 1) (imm5.extractLsb' 0 4)

/-- A coprocessor form: `cpid 0000 inst` (R450). -/
def copCode (d e f : BitVec 4) (inst : BitVec 8) (cpid : CpNum) : Code :=
  word4 13 d e f (regBits cpid ++ 0#4 ++ inst)

/-- The halfword or word of an instruction, with bit 15 of a halfword 0 (R130, R131). -/
def encode : Instr → Code
  | .subv dest src => half4 0 (regBits dest) 0 (regBits src)
  | .subx dest src => half4 0 (regBits dest) 1 (regBits src)
  | .sub dest src => half4 0 (regBits dest) 2 (regBits src)
  | .neg dest src => half4 0 (regBits dest) 3 (regBits src)
  | .cmp src1 src2 => half4 0 (regBits src1) 4 (regBits src2)
  | .cmpu src1 src2 => half4 0 (regBits src1) 5 (regBits src2)
  | .cmpeq src1 src2 => half4 0 (regBits src1) 6 (regBits src2)
  | .cmpz src => half4 0 0 7 (regBits src)
  | .addv dest src => half4 0 (regBits dest) 8 (regBits src)
  | .addx dest src => half4 0 (regBits dest) 9 (regBits src)
  | .add dest src => half4 0 (regBits dest) 10 (regBits src)
  | .not dest src => half4 0 (regBits dest) 11 (regBits src)
  | .and dest src => half4 0 (regBits dest) 12 (regBits src)
  | .xor dest src => half4 0 (regBits dest) 13 (regBits src)
  | .or dest src => half4 0 (regBits dest) 14 (regBits src)
  | .btst bitpos src => half4 0 (bitposBits bitpos) 15 (regBits src)
  | .pcmpbz src => half4 0 3 7 (regBits src)
  | .srl dest src => half4 1 (regBits dest) 0 (regBits src)
  | .sra dest src => half4 1 (regBits dest) 2 (regBits src)
  | .sll dest src => half4 1 (regBits dest) 4 (regBits src)
  | .mul dest src => half4 1 (regBits dest) 6 (regBits src)
  | .mv dest src => half4 1 (regBits dest) 8 (regBits src)
  | .mvfc dest cr => half4 1 (regBits dest) 9 (regBits cr)
  | .mvtc src cr => half4 1 (regBits cr) 10 (regBits src)
  | .rte => half4 1 0 13 6
  | .trap imm4 => half4 1 0 15 (regBits imm4)
  | .jc src => half4 1 12 12 (regBits src)
  | .jnc src => half4 1 13 12 (regBits src)
  | .jl src => half4 1 14 12 (regBits src)
  | .jmp src => half4 1 15 12 (regBits src)
  | .stb src1 src2 => half4 2 (regBits src1) 0 (regBits src2)
  | .stbInc src1 src2 => half4 2 (regBits src1) 1 (regBits src2)
  | .sth src1 src2 => half4 2 (regBits src1) 2 (regBits src2)
  | .sthInc src1 src2 => half4 2 (regBits src1) 3 (regBits src2)
  | .st src1 src2 => half4 2 (regBits src1) 4 (regBits src2)
  | .unlock src1 src2 => half4 2 (regBits src1) 5 (regBits src2)
  | .stPreInc src1 src2 => half4 2 (regBits src1) 6 (regBits src2)
  | .stPreDec src1 src2 => half4 2 (regBits src1) 7 (regBits src2)
  | .ldb dest src => half4 2 (regBits dest) 8 (regBits src)
  | .ldub dest src => half4 2 (regBits dest) 9 (regBits src)
  | .ldh dest src => half4 2 (regBits dest) 10 (regBits src)
  | .lduh dest src => half4 2 (regBits dest) 11 (regBits src)
  | .ld dest src => half4 2 (regBits dest) 12 (regBits src)
  | .lock dest src => half4 2 (regBits dest) 13 (regBits src)
  | .ldInc dest src => half4 2 (regBits dest) 14 (regBits src)
  | .mulhi src1 src2 acc => half4 3 (regBits src1) (accOpBits acc 0) (regBits src2)
  | .mullo src1 src2 acc => half4 3 (regBits src1) (accOpBits acc 1) (regBits src2)
  | .mulwhi src1 src2 => half4 3 (regBits src1) 2 (regBits src2)
  | .mulwlo src1 src2 => half4 3 (regBits src1) 3 (regBits src2)
  | .machi src1 src2 acc => half4 3 (regBits src1) (accOpBits acc 4) (regBits src2)
  | .maclo src1 src2 acc => half4 3 (regBits src1) (accOpBits acc 5) (regBits src2)
  | .macwhi src1 src2 => half4 3 (regBits src1) 6 (regBits src2)
  | .macwlo src1 src2 => half4 3 (regBits src1) 7 (regBits src2)
  | .addi dest imm8 => halfImm8 4 (regBits dest) imm8
  | .srli dest imm5 => shiftCode (regBits dest) 0 imm5
  | .srai dest imm5 => shiftCode (regBits dest) 1 imm5
  | .slli dest imm5 => shiftCode (regBits dest) 2 imm5
  | .mvtachi src acc => half4 5 (regBits src) 7 (accBits acc ++ 0#2)
  | .mvtaclo src acc => half4 5 (regBits src) 7 (accBits acc ++ 1#2)
  | .rach adest asrc imm1 => roundCode 8 adest asrc imm1
  | .rac adest asrc imm1 => roundCode 9 adest asrc imm1
  | .mulwu1 src1 src2 => half4 5 (regBits src1) 10 (regBits src2)
  | .macwu1 src1 src2 => half4 5 (regBits src1) 11 (regBits src2)
  | .maclh1 src1 src2 => half4 5 (regBits src1) 12 (regBits src2)
  | .msblo src1 src2 => half4 5 (regBits src1) 13 (regBits src2)
  | .sadd => half4 5 0 14 4
  | .mvfachi dest acc => half4 5 (regBits dest) 15 (accBits acc ++ 0#2)
  | .mvfaclo dest acc => half4 5 (regBits dest) 15 (accBits acc ++ 1#2)
  | .mvfacmi dest acc => half4 5 (regBits dest) 15 (accBits acc ++ 2#2)
  | .ldi8 dest imm8 => halfImm8 6 (regBits dest) imm8
  | .nop => half4 7 0 0 0
  | .setpsw imm8 => halfImm8 7 1 imm8
  | .clrpsw imm8 => halfImm8 7 2 imm8
  | .sc => half4 7 4 0 1
  | .snc => half4 7 5 0 1
  | .bcl8 pcdisp8 => halfImm8 7 8 pcdisp8
  | .bncl8 pcdisp8 => halfImm8 7 9 pcdisp8
  | .bc8 pcdisp8 => halfImm8 7 12 pcdisp8
  | .bnc8 pcdisp8 => halfImm8 7 13 pcdisp8
  | .bl8 pcdisp8 => halfImm8 7 14 pcdisp8
  | .bra8 pcdisp8 => halfImm8 7 15 pcdisp8
  | .cmpi src imm16 => word4 8 0 4 (regBits src) imm16
  | .cmpui src imm16 => word4 8 0 5 (regBits src) imm16
  | .sath dest src => word4 8 (regBits dest) 6 (regBits src) 0x0200
  | .satb dest src => word4 8 (regBits dest) 6 (regBits src) 0x0300
  | .addv3 dest src imm16 => word4 8 (regBits dest) 8 (regBits src) imm16
  | .add3 dest src imm16 => word4 8 (regBits dest) 10 (regBits src) imm16
  | .and3 dest src imm16 => word4 8 (regBits dest) 12 (regBits src) imm16
  | .xor3 dest src imm16 => word4 8 (regBits dest) 13 (regBits src) imm16
  | .or3 dest src imm16 => word4 8 (regBits dest) 14 (regBits src) imm16
  | .div dest src => word4 9 (regBits dest) 0 (regBits src) 0x0000
  | .divh dest src => word4 9 (regBits dest) 0 (regBits src) 0x0010
  | .divb dest src => word4 9 (regBits dest) 0 (regBits src) 0x0018
  | .divu dest src => word4 9 (regBits dest) 1 (regBits src) 0x0000
  | .divuh dest src => word4 9 (regBits dest) 1 (regBits src) 0x0010
  | .divub dest src => word4 9 (regBits dest) 1 (regBits src) 0x0018
  | .rem dest src => word4 9 (regBits dest) 2 (regBits src) 0x0000
  | .remh dest src => word4 9 (regBits dest) 2 (regBits src) 0x0010
  | .remb dest src => word4 9 (regBits dest) 2 (regBits src) 0x0018
  | .remu dest src => word4 9 (regBits dest) 3 (regBits src) 0x0000
  | .remuh dest src => word4 9 (regBits dest) 3 (regBits src) 0x0010
  | .remub dest src => word4 9 (regBits dest) 3 (regBits src) 0x0018
  | .srl3 dest src imm16 => word4 9 (regBits dest) 8 (regBits src) imm16
  | .sra3 dest src imm16 => word4 9 (regBits dest) 10 (regBits src) imm16
  | .sll3 dest src imm16 => word4 9 (regBits dest) 12 (regBits src) imm16
  | .ldi16 dest imm16 => word4 9 (regBits dest) 15 0 imm16
  | .stbDisp src1 src2 disp16 => word4 10 (regBits src1) 0 (regBits src2) disp16
  | .sthDisp src1 src2 disp16 => word4 10 (regBits src1) 2 (regBits src2) disp16
  | .stDisp src1 src2 disp16 => word4 10 (regBits src1) 4 (regBits src2) disp16
  | .bset bitpos src disp16 => word4 10 (bitposBits bitpos) 6 (regBits src) disp16
  | .bclr bitpos src disp16 => word4 10 (bitposBits bitpos) 7 (regBits src) disp16
  | .ldbDisp dest src disp16 => word4 10 (regBits dest) 8 (regBits src) disp16
  | .ldubDisp dest src disp16 => word4 10 (regBits dest) 9 (regBits src) disp16
  | .ldhDisp dest src disp16 => word4 10 (regBits dest) 10 (regBits src) disp16
  | .lduhDisp dest src disp16 => word4 10 (regBits dest) 11 (regBits src) disp16
  | .ldDisp dest src disp16 => word4 10 (regBits dest) 12 (regBits src) disp16
  | .beq src1 src2 pcdisp16 => word4 11 (regBits src1) 0 (regBits src2) pcdisp16
  | .bne src1 src2 pcdisp16 => word4 11 (regBits src1) 1 (regBits src2) pcdisp16
  | .beqz src pcdisp16 => word4 11 0 8 (regBits src) pcdisp16
  | .bnez src pcdisp16 => word4 11 0 9 (regBits src) pcdisp16
  | .bltz src pcdisp16 => word4 11 0 10 (regBits src) pcdisp16
  | .bgez src pcdisp16 => word4 11 0 11 (regBits src) pcdisp16
  | .blez src pcdisp16 => word4 11 0 12 (regBits src) pcdisp16
  | .bgtz src pcdisp16 => word4 11 0 13 (regBits src) pcdisp16
  | .mvfcp dest cpr inst cpid => copCode (regBits dest) 5 (regBits cpr) inst cpid
  | .mvtcp src cpr inst cpid => copCode (regBits src) 6 (regBits cpr) inst cpid
  | .opecp cpdest cpsrc inst cpid => copCode (regBits cpdest) 7 (regBits cpsrc) inst cpid
  | .seth dest imm16 => word4 13 (regBits dest) 12 0 imm16
  | .ld24 dest imm24 => wordImm24 14 (regBits dest) imm24
  | .bcl24 pcdisp24 => wordImm24 15 8 pcdisp24
  | .bncl24 pcdisp24 => wordImm24 15 9 pcdisp24
  | .bc24 pcdisp24 => wordImm24 15 12 pcdisp24
  | .bnc24 pcdisp24 => wordImm24 15 13 pcdisp24
  | .bl24 pcdisp24 => wordImm24 15 14 pcdisp24
  | .bra24 pcdisp24 => wordImm24 15 15 pcdisp24

/-- The pipe category of an instruction (R148): left side only, either side, right side only, or a 32-bit
instruction, which is never paired (R465). -/
inductive Pipe where
  | left
  | both
  | right
  | wide
deriving DecidableEq, Repr

/-- Table 2.5.1 as R148 gives it. -/
def Instr.pipe : Instr → Pipe
  | .btst .. | .mvfc .. | .mvtc .. | .rte | .trap .. | .jc .. | .jnc .. | .jl ..
  | .jmp .. | .stb .. | .stbInc .. | .sth .. | .sthInc .. | .st .. | .unlock .. | .stPreInc ..
  | .stPreDec .. | .ldb .. | .ldub .. | .ldh .. | .lduh .. | .ld .. | .lock .. | .ldInc ..
  | .setpsw .. | .clrpsw .. | .sc | .snc | .bcl8 .. | .bncl8 .. | .bc8 .. | .bnc8 ..
  | .bl8 .. | .bra8 .. => .left
  | .subv .. | .subx .. | .sub .. | .neg .. | .cmp .. | .cmpu .. | .cmpeq .. | .cmpz ..
  | .addv .. | .addx .. | .add .. | .not .. | .and .. | .xor .. | .or .. | .pcmpbz ..
  | .srl .. | .sra .. | .sll .. | .mv .. | .addi .. | .srli .. | .srai .. | .slli ..
  | .ldi8 .. | .nop => .both
  | .mul .. | .mulhi .. | .mullo .. | .mulwhi .. | .mulwlo .. | .machi .. | .maclo .. | .macwhi ..
  | .macwlo .. | .mvtachi .. | .mvtaclo .. | .rach .. | .rac .. | .mulwu1 .. | .macwu1 .. | .maclh1 ..
  | .msblo .. | .sadd | .mvfachi .. | .mvfaclo .. | .mvfacmi .. => .right
  | .cmpi .. | .cmpui .. | .sath .. | .satb .. | .addv3 .. | .add3 .. | .and3 .. | .xor3 ..
  | .or3 .. | .div .. | .divh .. | .divb .. | .divu .. | .divuh .. | .divub .. | .rem ..
  | .remh .. | .remb .. | .remu .. | .remuh .. | .remub .. | .srl3 .. | .sra3 .. | .sll3 ..
  | .ldi16 .. | .stbDisp .. | .sthDisp .. | .stDisp .. | .bset .. | .bclr .. | .ldbDisp .. | .ldubDisp ..
  | .ldhDisp .. | .lduhDisp .. | .ldDisp .. | .beq .. | .bne .. | .beqz .. | .bnez .. | .bltz ..
  | .bgez .. | .blez .. | .bgtz .. | .mvfcp .. | .mvtcp .. | .opecp .. | .seth .. | .ld24 ..
  | .bcl24 .. | .bncl24 .. | .bc24 .. | .bnc24 .. | .bl24 .. | .bra24 .. => .wide

/-- The instruction the decoder reads from a row's bits, numbered as the opcode table numbers them: a 16-bit row is a
halfword (bit 15, the execution method, is no part of the instruction: R122), a 32-bit row a word. -/
def decodeTableWord (nbits w : Nat) : Option Instr :=
  match nbits with
  | 16 => (decode16 (BitVec.ofNat 16 w)).toOption
  | 32 => (decode32 (BitVec.ofNat 32 w)).toOption
  | _ => none

end Sys2Proof
end

