-- ==== Sys2Proof/Config.lean ====
section
/-! DEFINITION. Config: the parameters the spec leaves OPEN (00_scope.md R5, 92_eei_decisions.md) and the free
values that stand for what it calls undefined or unspecified (93_implementation_defined.md). Each is an opaque
constant: no proof can learn its value, so a theorem about the model holds for every choice of them. -/

namespace Sys2Proof

/-- The EIT events that enter through a vector (60_exceptions.md R501). `ri` is here for its vector address only:
a reset establishes the reset state and does not use the entry sequence (R507). -/
inductive Event where
  /-- reset interrupt -/
  | ri
  /-- reserved instruction exception -/
  | rie
  /-- privileged instruction exception -/
  | pie
  /-- address exception -/
  | ae
  /-- coprocessor disable exception -/
  | cde
  /-- TRAP #n -/
  | trap (n : Fin 16)
  /-- external interrupt -/
  | ei
  /-- coprocessor interrupt -/
  | cpi
deriving DecidableEq, Repr

/-- An operation delivered to a coprocessor through the interface of 47_coprocessor.md R450. -/
inductive CopOp where
  /-- CopRead(cpid, cpr, inst) -/
  | read (cpid : CpNum) (cpr : CpReg) (inst : BitVec 8)
  /-- CopWrite(cpid, cpr, inst, value) -/
  | write (cpid : CpNum) (cpr : CpReg) (inst : BitVec 8) (value : Word)
  /-- CopOperate(cpid, cpdest, cpsrc, inst) -/
  | operate (cpid : CpNum) (cpdest cpsrc : CpReg) (inst : BitVec 8)
deriving DecidableEq, Repr

/-- OPEN parameter VecOffset (D2): half of the offset of an event's vector entry. Offsets are even and below
0x10000 (`vecOffset` of Machine/Ops.lean makes them so). That they are distinct is not assumed. Log 10. -/
opaque Config.vecSlot : Event → BitVec 15

/-- OPEN parameter IntEntrySM (D3): true when the entry of EI and CPI also clears SM. Log 11. -/
opaque Config.intEntryClearsSm : Bool

/-- What CopRead returns, as a function of every operation the coprocessors have been given so far (latest first)
and of the read itself: the most general coprocessors there are (D16). Log 31. -/
opaque Config.copValue : List CopOp → CpNum → CpReg → BitVec 8 → Word

/-- The n-th unspecified word (U1, U13, U14). Log 24. -/
opaque Config.freeWord : Nat → Word

/-- The n-th unspecified accumulator value (U1, U3). Log 24. -/
opaque Config.freeAcc : Nat → Acc56

/-- The n-th unspecified bit (U14). Log 24. -/
opaque Config.freeBit : Nat → Bool

end Sys2Proof
end

