-- ==== Sys2Proof/Machine/State.lean ====
section
/-! DEFINITION. State: everything the spec gives the machine (10_state.md, 60_exceptions.md R508-R509,
47_coprocessor.md R450), as plain data, the reasons a step can stop, and the state after reset (R60, R561). -/

namespace Sys2Proof.Machine

/-- The address space (R81) as the bytes that differ from `Memory.unwritten`, by rising address. -/
abbrev Memory := List Host.Cell

/-- What a byte of memory that nothing has written reads as (DESIGN CHOICE, log 8). -/
def Memory.unwritten : Byte := 0

/-- The canonical form: addresses strictly rising and below 2^32, no byte listed that an unlisted address reads as. -/
abbrev Memory.wf (m : Memory) : Prop :=
  m.Pairwise (fun x y => x.1 < y.1) ∧ ∀ c ∈ m, c.2 ≠ Memory.unwritten ∧ c.1 < 4294967296

/-- The storage behind the general registers: R0-R14, and the two stack pointers R15 can name (R22). -/
inductive Cell where
  | gpr (n : Fin 15)
  | spi
  | spu
deriving DecidableEq, Repr

structure State where
  /-- R0-R14 (R21). R15 has no storage of its own (R22). -/
  gpr : Vector Word 15
  /-- CR2, the interrupt stack pointer (R41) -/
  spi : Word
  /-- CR3, the user stack pointer (R41) -/
  spu : Word
  /-- The program counter (R25) -/
  pc : Word
  /-- CR0, implemented bits 0x0000CDCD (R32). CR1 (CBR) is its bit 0 (R38). -/
  psw : Word
  /-- CR5, writable bits 0x7FFF0000, AT = 0 (R42) -/
  evb : Word
  /-- CR6, bit 0 fixed to 0 (R45) -/
  bpc : Word
  /-- The hidden bit that says EVB has been written since reset (R44) -/
  evbWritten : Bool
  /-- The 56 stored bits of ACC0 (R50) -/
  acc0 : Acc56
  /-- The 56 stored bits of ACC1 (R50) -/
  acc1 : Acc56
  /-- The internal LOCK bit (R56) -/
  lock : Bool
  /-- Memory (R81) -/
  mem : Memory
  /-- Request line of the external interrupt EI, an input (R508) -/
  intReq : Bool
  /-- Request line of the coprocessor interrupt CPI, an input (R509) -/
  copIntReq : Bool
  /-- Reset request RI, an input (R507) -/
  resetReq : Bool
  /-- Bit k is CopEnabled(k) (R450). No instruction changes it. -/
  copEnabled : BitVec 16
  /-- The operations the coprocessors have been given, latest first: their abstract state (R450, log 31) -/
  copLog : List CopOp
  /-- The MODEL's own counter of free values used (log 24); no state of the hardware -/
  freeCount : Nat
  /-- The MODEL's own mark that the program is outside the guarantee: it has written PM directly outside the user space
  (R571, U9, log 32). No state of the hardware; nothing but this mark depends on it -/
  outsideGuarantee : Bool
deriving DecidableEq, Repr

/-- Why the machine stops. -/
inductive Fault where
  /-- Raised by `step` in a state whose PC is odd, which the hardware does not have (R25: PC bit 0 is always 0).
  No run reaches it from a state with an even PC. Safe. -/
  | oddPc
deriving DecidableEq, Repr

/-- Why an instruction or a word has no meaning. -/
inductive Refusal where
  /-- Raised by an arm of `exec` whose instruction has no meaning in this model. Safe. -/
  | notModelled (mnemonic : String)
  /-- Raised by MVFC, and by MVTC in supervisor mode, for a control register number that names no register
  (R31, U7: refuse). Safe. -/
  | noControlRegister (n : CrNum)
  /-- Raised by MVTC to EVB in supervisor mode once EVB has been written since reset (R44, R587, U10: refuse). Safe. -/
  | evbAlreadyWritten
  /-- Raised by `LD Rn,@Rn+` at an aligned address: one register written twice (R212, R475, U12: refuse). Safe. -/
  | registerWrittenTwice
  /-- Raised by `step` for a parallel word whose two instructions are in none of the placements of R466
  (R475, U15: refuse). Safe. -/
  | pairPlacement
  /-- Raised by `step` when PC is at the lower half of a word that holds a 32-bit instruction (R474, U16: refuse).
  Safe. -/
  | insideWideInstruction
  /-- Raised by `step` when PC is at the lower half of a parallel word (R474, U16: refuse). Safe. -/
  | insideParallelPair
deriving DecidableEq, Repr

/-- The outcome of a step or of an instruction. -/
abbrev Result := Host.Outcome State Fault Refusal

/-- The machine right after reset (R60, R561): PC = 0, PSW = 0 (supervisor mode, interrupts disabled, R15 is SPI),
EVB = 0, LOCK = 0, EVBwritten = 0. The values the spec calls undefined or does not state (R0-R14, SPI, SPU, BPC,
BPSW, the accumulators) are 0 by DESIGN CHOICE (log 1-5), no coprocessor is attached (D16), nothing is requested. -/
def State.reset : State where
  gpr := Vector.replicate 15 0
  spi := 0
  spu := 0
  pc := 0
  psw := 0
  evb := 0
  bpc := 0
  evbWritten := false
  acc0 := 0
  acc1 := 0
  lock := false
  mem := []
  intReq := false
  copIntReq := false
  resetReq := false
  copEnabled := 0
  copLog := []
  freeCount := 0
  outsideGuarantee := false

end Sys2Proof.Machine
end

