-- ==== Sys2Proof/Machine/Ops.lean ====
section
/-! DEFINITION. Ops: the named operations over memory, registers, PSW and accumulators, EIT entry and return, and the
ways an instruction ends. Slices and bit numbers are LSB-0 (R6). -/

namespace Sys2Proof.Machine

/-! ### Memory (20_memory.md) -/

/-- The byte at an address. -/
def Memory.read : Memory → Nat → Byte
  | [], _ => Memory.unwritten
  | (k, b) :: t, a => if k = a then b else Memory.read t a

/-- The memory with the byte at `a` listed before the first higher address. -/
def Memory.insert : Memory → Nat → Byte → Memory
  | [], a, v => [(a, v)]
  | (k, b) :: t, a, v => if a < k then (a, v) :: (k, b) :: t else (k, b) :: Memory.insert t a v

/-- The memory with nothing listed at `a`. -/
def Memory.erase (m : Memory) (a : Nat) : Memory := m.filter (fun c => c.1 != a)

/-- The memory after a write of one byte; a byte that an unlisted address reads as is not listed. -/
def Memory.write (m : Memory) (a : Nat) (v : Byte) : Memory :=
  if v = Memory.unwritten then m.erase a else (m.erase a).insert a v

/-- MemRead(a, 1) (R8). -/
def State.readByte (s : State) (a : Word) : Byte := s.mem.read a.toNat

/-- MemRead(a, 2), big endian (R84). -/
def State.readHalf (s : State) (a : Word) : Half := s.readByte a ++ s.readByte (a + 1)

/-- MemRead(a, 4), big endian (R84). -/
def State.readWord (s : State) (a : Word) : Word :=
  s.readByte a ++ s.readByte (a + 1) ++ s.readByte (a + 2) ++ s.readByte (a + 3)

/-- MemWrite(a, 1, v) (R8). -/
def State.writeByte (s : State) (a : Word) (v : Byte) : State := { s with mem := s.mem.write a.toNat v }

/-- MemWrite(a, 2, v), big endian (R84). -/
def State.writeHalf (s : State) (a : Word) (v : Half) : State :=
  (s.writeByte a (v.extractLsb' 8 8)).writeByte (a + 1) (v.extractLsb' 0 8)

/-- MemWrite(a, 4, v), big endian (R84). -/
def State.writeWord (s : State) (a : Word) (v : Word) : State :=
  (((s.writeByte a (v.extractLsb' 24 8)).writeByte (a + 1) (v.extractLsb' 16 8)).writeByte
    (a + 2) (v.extractLsb' 8 8)).writeByte (a + 3) (v.extractLsb' 0 8)

/-! ### PSW fields (10_state.md R32, R35) -/

/-- The implemented bits of PSW (R32). -/
def pswMask : Word := 0x0000CDCD

/-- The PSW field: SM, IE, PM, CE, C (R32). -/
def pswFieldMask : Word := 0x000000CD

/-- The writable bits of EVB (R42). -/
def evbMask : Word := 0x7FFF0000

/-- The condition bit. -/
def State.c (s : State) : Bool := s.psw.getLsbD 0
/-- Coprocessor interrupt enable. -/
def State.ce (s : State) : Bool := s.psw.getLsbD 2
/-- Processor mode: false is supervisor, true is user. -/
def State.pm (s : State) : Bool := s.psw.getLsbD 3
/-- Interrupt enable. -/
def State.ie (s : State) : Bool := s.psw.getLsbD 6
/-- Stack mode: false selects SPI, true SPU. -/
def State.sm (s : State) : Bool := s.psw.getLsbD 7
/-- Backup C. -/
def State.bc (s : State) : Bool := s.psw.getLsbD 8
/-- Backup CE. -/
def State.bce (s : State) : Bool := s.psw.getLsbD 10
/-- Backup PM. -/
def State.bpm (s : State) : Bool := s.psw.getLsbD 11
/-- Backup IE. -/
def State.bie (s : State) : Bool := s.psw.getLsbD 14
/-- Backup SM. -/
def State.bsm (s : State) : Bool := s.psw.getLsbD 15

/-- C <- b; every other bit of PSW is kept. -/
def State.setC (s : State) (b : Bool) : State :=
  { s with psw := (s.psw &&& 0xFFFFFFFE) ||| (if b then 1 else 0) }

/-! ### General registers (R21, R22) -/

/-- The storage a register number names: R15 is SPI or SPU by PSW.SM (R22). -/
def State.cellOf (s : State) (r : Reg) : Cell :=
  if h : r.val < 15 then .gpr ⟨r.val, h⟩ else if s.sm then .spu else .spi

/-- The word in a storage cell. -/
def State.cell (s : State) : Cell → Word
  | .gpr n => s.gpr[n.val]
  | .spi => s.spi
  | .spu => s.spu

/-- Write a storage cell. -/
def State.setCell (s : State) (k : Cell) (v : Word) : State :=
  match k with
  | .gpr n => { s with gpr := s.gpr.set n.val v }
  | .spi => { s with spi := v }
  | .spu => { s with spu := v }

/-- x[r] (R8). -/
def State.reg (s : State) (r : Reg) : Word := s.cell (s.cellOf r)

/-- x[r] <- v (R8). -/
def State.setReg (s : State) (r : Reg) (v : Word) : State := s.setCell (s.cellOf r) v

/-- The link register R14 (R21). -/
def linkReg : Reg := 14

/-! ### Accumulators (R50) -/

/-- The 56 stored bits. -/
def State.acc (s : State) : Acc → Acc56
  | .a0 => s.acc0
  | .a1 => s.acc1

/-- Write the 56 stored bits. -/
def State.setAcc (s : State) (a : Acc) (v : Acc56) : State :=
  match a with
  | .a0 => { s with acc0 := v }
  | .a1 => { s with acc1 := v }

/-- A64(a): the accumulator read as 64 bits, sign-extended (R50). -/
def State.a64 (s : State) (a : Acc) : BitVec 64 := (s.acc a).signExtend 64

/-- A64(a) <- v for an exact value: the low 56 bits are stored (R50, R430). -/
def State.setAccInt (s : State) (a : Acc) (v : Int) : State := s.setAcc a (BitVec.ofInt 56 v)

/-! ### Free values (log 24) -/

/-- The state after `k` more free values have been used. -/
def State.useFree (s : State) (k : Nat) : State := { s with freeCount := s.freeCount + k }

/-- An unspecified word. -/
def State.freeWord (s : State) : Word := Config.freeWord s.freeCount

/-- An unspecified bit. -/
def State.freeBit (s : State) : Bool := Config.freeBit s.freeCount

/-- Both accumulators take unspecified values (U3). -/
def State.destroyAccs (s : State) : State :=
  (((s.setAcc .a0 (Config.freeAcc s.freeCount)).setAcc .a1 (Config.freeAcc (s.freeCount + 1))).useFree 2)

/-! ### Control registers (R30) -/

/-- The write of EVB (R42), which happens once after reset (R44). A later one is outside the spec and refused, so that no
handler moves the vector base (R587; U10, log 7). -/
def State.writeEvb (s : State) (v : Word) : Except Refusal State :=
  if s.evbWritten then .error .evbAlreadyWritten else .ok { s with evb := v &&& evbMask, evbWritten := true }

/-- PC is in the user space 0x00000000-0x7FFFFFFF (R92). -/
def State.inUserSpace (s : State) : Bool := !s.pc.getLsbD 31

/-- The mark of R571: where the instruction at PC writes PM directly (`direct`) outside the user space, the program is
from then on outside the guarantee (U9, log 32). -/
def State.markPm (s : State) (direct : Bool) : State :=
  { s with outsideGuarantee := s.outsideGuarantee || (direct && !s.inUserSpace) }

/-- CR[n] (R233); `none` where the number names no register (R31). -/
def State.readCr (s : State) (n : CrNum) : Option Word :=
  match n.val with
  | 0 => some (s.psw &&& pswMask)
  | 1 => some (if s.c then 1 else 0)
  | 2 => some s.spi
  | 3 => some s.spu
  | 5 => some (s.evb &&& evbMask)
  | 6 => some (s.bpc &&& 0xFFFFFFFE)
  | _ => none

/-- CR[n] <- v (R234); refused where the number names no register (R31, U7). Fixed-zero bits are not stored (D11); a write
of CBR is ignored (R38). Writing PM = 1 to PSW is a direct change of PM (R571). -/
def State.writeCr (s : State) (n : CrNum) (v : Word) : Except Refusal State :=
  match n.val with
  | 0 => .ok ({ s with psw := v &&& pswMask }.markPm (v.getLsbD 3))
  | 1 => .ok s
  | 2 => .ok { s with spi := v }
  | 3 => .ok { s with spu := v }
  | 5 => s.writeEvb v
  | 6 => .ok { s with bpc := v &&& 0xFFFFFFFE }
  | _ => .error (.noControlRegister n)

/-! ### Instruction positions (49_sequencing_parallel.md R462) -/

/-- The address of the word that holds the instruction at `a`. -/
def wordBase (a : Word) : Word := a &&& 0xFFFFFFFC

/-- The address is a word boundary (R26). -/
def isWordBoundary (a : Word) : Bool := a.extractLsb' 0 2 == 0

/-- W[15] = 1: the word at PC is a parallel pair when it holds 16-bit instructions (R121). -/
def State.parallelBit (s : State) : Bool := (s.readHalf (wordBase s.pc + 2)).getLsbD 15

/-- `npc` of a 16-bit instruction at PC: past the whole word in a parallel pair, else the next halfword (R462). -/
def State.npc16 (s : State) : Word :=
  if isWordBoundary s.pc && s.parallelBit then s.pc + 4 else s.pc + 2

/-- `npc` of a 32-bit instruction at PC (R462). -/
def State.npc32 (s : State) : Word := s.pc + 4

/-- pc <- a. -/
def State.goto (s : State) (a : Word) : State := { s with pc := a }

/-! ### EIT entry and return (60_exceptions.md) -/

/-- Offset of an event's vector entry: even, below 0x10000 (R512, D2). -/
def vecOffset (e : Event) : Word := (Config.vecSlot e ++ 0#1).setWidth 32

/-- VecAddr(E): RI at 0 whatever EVB holds, every other event from EVB (R512, R43, D24). -/
def State.vecAddr (s : State) (e : Event) : Word :=
  match e with
  | .ri => 0
  | e => (s.evb &&& 0xFFFF0000) + vecOffset e

/-- SM is cleared on the entry of an interrupt if the parameter IntEntrySM is `clear` (R510, D3). -/
def entryClearsSm : Event → Bool
  | .ei => Config.intEntryClearsSm
  | .cpi => Config.intEntryClearsSm
  | .ri | .rie | .pie | .ae | .cde | .trap _ => false

/-- PSW after EIT entry: the PSW field is saved in the BPSW field; IE, PM, CE, C are cleared; SM is kept unless
`clearSm` (R510). -/
def entryPsw (clearSm : Bool) (p : Word) : Word :=
  ((p &&& pswFieldMask) <<< 8) ||| (if clearSm then 0 else p &&& 0x80)

/-- TAKING AN EIT EVENT (R510): one operation for every event but RI. `savedPc` is chosen by R511. -/
def State.enter (s : State) (e : Event) (savedPc : Word) : State :=
  { s with
    bpc := savedPc &&& 0xFFFFFFFE
    psw := entryPsw (entryClearsSm e) s.psw
    pc := s.vecAddr e }

/-- PSW after RTE: SM, IE, PM, CE, C come back from the BPSW field, which keeps its value (R386). -/
def returnPsw (p : Word) : Word := (p &&& 0x0000CD00) ||| ((p >>> 8) &&& pswFieldMask)

/-- RETURN FROM EIT (R386, R525). -/
def State.eitReturn (s : State) : State :=
  { s with psw := returnPsw s.psw, pc := s.bpc &&& 0xFFFFFFFE }

/-- An exception RIE, PIE, AE or CDE of the instruction or pair at PC: nothing else happens, and BPC receives the
address of the instruction (R511, R513). -/
def State.raise (s : State) (e : Event) : Result := .next (s.enter e s.pc)

/-- RI (R507, R560, R561): the reset state. Memory and the environment's inputs stay; the values the spec calls
undefined or does not state are free (D10, log 15). The request is consumed. -/
def State.takeReset (s : State) : State :=
  { s with
    gpr := Vector.ofFn (fun k : Fin 15 => Config.freeWord (s.freeCount + k.val))
    spi := Config.freeWord (s.freeCount + 15)
    spu := Config.freeWord (s.freeCount + 16)
    pc := s.vecAddr .ri
    psw := Config.freeWord (s.freeCount + 17) &&& 0x0000CD00
    evb := 0
    bpc := Config.freeWord (s.freeCount + 18) &&& 0xFFFFFFFE
    evbWritten := false
    acc0 := Config.freeAcc s.freeCount
    acc1 := Config.freeAcc (s.freeCount + 1)
    lock := false
    resetReq := false
    freeCount := s.freeCount + 19
    outsideGuarantee := false }

/-- Step 0 of R461: the interrupt-class event accepted at this step boundary, in the order of R515. -/
def State.boundary (s : State) : Option State :=
  if s.resetReq then some s.takeReset
  else if s.intReq && s.ie then some (s.enter .ei s.pc)
  else if s.copIntReq && s.ce then some (s.enter .cpi s.pc)
  else none

/-! ### How an instruction ends -/

/-- A 16-bit instruction that assigns no PC: `t` is `s` with its effects (R462). -/
def State.done16 (s t : State) : Result := .next (t.goto s.npc16)

/-- A 32-bit instruction that assigns no PC (R462). -/
def State.done32 (s t : State) : Result := .next (t.goto s.npc32)

/-- The access address is a multiple of the access width (R86). -/
def aligned (ea : Word) (n : Nat) : Bool := ea.toNat % n == 0

/-- `if ea mod n != 0 then raise AE` before the rest of an instruction (R211). -/
def State.ifAligned (s : State) (ea : Word) (n : Nat) (rest : Result) : Result :=
  if aligned ea n then rest else s.raise .ae

/-- `if PSW.PM = 1 then raise PIE` before the rest of an instruction (R502). -/
def State.ifSupervisor (s : State) (rest : Result) : Result :=
  if s.pm then s.raise .pie else rest

/-- CopEnabled(cpid) (R450). -/
def State.copOn (s : State) (cpid : CpNum) : Bool := s.copEnabled.getLsbD cpid.val

/-- `if not CopEnabled(cpid) then raise CDE` before the rest of an instruction (R454). -/
def State.ifCoprocessor (s : State) (cpid : CpNum) (rest : Result) : Result :=
  if s.copOn cpid then rest else s.raise .cde

/-- The coprocessors' state after one more operation. -/
def State.copDo (s : State) (op : CopOp) : State := { s with copLog := op :: s.copLog }

end Sys2Proof.Machine
end

