-- ==== Sys2Proof/Machine/Operands.lean ====
section
/-! DEFINITION. Operands: immediates and displacements (30_encoding.md R127, R128), effective addresses
(20_memory.md R102), branch targets and link values (44_branch.md R340, R341). -/

namespace Sys2Proof.Machine

/-- `sext`: an immediate sign-extended to a word. -/
def sext {n : Nat} (v : BitVec n) : Word := v.signExtend 32

/-- `zext`: an immediate zero-extended to a word. -/
def zext {n : Nat} (v : BitVec n) : Word := v.setWidth 32

/-- `@R`: the register value (R102). -/
def State.eaReg (s : State) (r : Reg) : Word := s.reg r

/-- `@(disp16,R)`: register plus the displacement sign-extended, not scaled (R102). -/
def State.eaDisp (s : State) (r : Reg) (disp16 : BitVec 16) : Word := s.reg r + sext disp16

/-- `@+R`: the value after +4 (R102). -/
def State.eaPreInc (s : State) (r : Reg) : Word := s.reg r + 4

/-- `@-R`: the value after -4 (R102). -/
def State.eaPreDec (s : State) (r : Reg) : Word := s.reg r - 4

/-- A PC-relative target: the word of the branch plus the sign-extended displacement in words (R340). -/
def State.pcTarget (s : State) {n : Nat} (pcdisp : BitVec n) : Word := wordBase s.pc + (sext pcdisp <<< 2)

/-- A register target: the low two bits are ignored (R340). -/
def State.regTarget (s : State) (r : Reg) : Word := wordBase (s.reg r)

/-- The link value: the word after the word of the branch (R341). -/
def State.linkValue (s : State) : Word := wordBase s.pc + 4

/-- The mask of a bit position: 0 is the most significant bit of the byte (R128). -/
def bitMask (bitpos : Fin 8) : Byte := 1 <<< (7 - bitpos.val)

/-- A register shift count: the low 5 bits (R329). -/
def shiftCount (v : Word) : Nat := v.toNat % 32

/-- A 16-bit immediate shift count: the low 5 bits (R127, R329). -/
def shiftCount16 (imm16 : BitVec 16) : Nat := imm16.toNat % 32

end Sys2Proof.Machine
end

