-- ==== Sys2Proof/Machine/Flags.lean ====
section
/-! DEFINITION. Flags: how the condition bit is computed (42_compare_arith_logic.md R250-R256, R281). Each is computed
from the exact integers of the operands. -/

namespace Sys2Proof.Machine

/-- `signed(a) < signed(b)` (CMP, CMPI). -/
def ltSigned (a b : Word) : Bool := decide (a.toInt < b.toInt)

/-- `unsigned(a) < unsigned(b)` (CMPU, CMPUI). -/
def ltUnsigned (a b : Word) : Bool := decide (a.toNat < b.toNat)

/-- One of the four bytes is 0 (PCMPBZ, R256). -/
def anyByteZero (v : Word) : Bool :=
  v.extractLsb' 24 8 == 0 || v.extractLsb' 16 8 == 0 || v.extractLsb' 8 8 == 0 || v.extractLsb' 0 8 == 0

/-- The exact result is not a signed 32-bit value. -/
def outOfRange (n : Int) : Bool := decide (n < -2147483648 ∨ 2147483647 < n)

/-- ovf_add(a, b) (R281). -/
def ovfAdd (a b : Word) : Bool := outOfRange (a.toInt + b.toInt)

/-- ovf_sub(a, b) (R281). -/
def ovfSub (a b : Word) : Bool := outOfRange (a.toInt - b.toInt)

/-- The condition bit as a number. -/
def bitNat (c : Bool) : Nat := if c then 1 else 0

/-- carry(a, b, c) (R281). -/
def carry (a b : Word) (c : Bool) : Bool := decide (4294967296 ≤ a.toNat + b.toNat + bitNat c)

/-- borrow(a, b, c) (R281). -/
def borrow (a b : Word) (c : Bool) : Bool := decide (a.toNat < b.toNat + bitNat c)

end Sys2Proof.Machine
end

