-- ==== Sys2Proof/Machine/Arith.lean ====
section
/-! DEFINITION. Arith: the arithmetic instructions of 42_compare_arith_logic.md section 3. Results wrap modulo 2^32
(R280). -/

namespace Sys2Proof.Machine

/-- ADD Rdest,Rsrc (R260). -/
def execAdd (dest src : Reg) (s : State) : Result := s.done16 (s.setReg dest (s.reg dest + s.reg src))

/-- ADD3 Rdest,Rsrc,#imm16 (R261). -/
def execAdd3 (dest src : Reg) (imm16 : BitVec 16) (s : State) : Result :=
  s.done32 (s.setReg dest (s.reg src + sext imm16))

/-- ADDI Rdest,#imm8 (R262). -/
def execAddi (dest : Reg) (imm8 : BitVec 8) (s : State) : Result :=
  s.done16 (s.setReg dest (s.reg dest + sext imm8))

/-- ADDV Rdest,Rsrc (R263). -/
def execAddv (dest src : Reg) (s : State) : Result :=
  s.done16 ((s.setReg dest (s.reg dest + s.reg src)).setC (ovfAdd (s.reg dest) (s.reg src)))

/-- ADDV3 Rdest,Rsrc,#imm16 (R264). -/
def execAddv3 (dest src : Reg) (imm16 : BitVec 16) (s : State) : Result :=
  s.done32 ((s.setReg dest (s.reg src + sext imm16)).setC (ovfAdd (s.reg src) (sext imm16)))

/-- ADDX Rdest,Rsrc (R265). -/
def execAddx (dest src : Reg) (s : State) : Result :=
  s.done16 ((s.setReg dest (s.reg dest + s.reg src + BitVec.ofNat 32 (bitNat s.c))).setC
    (carry (s.reg dest) (s.reg src) s.c))

/-- NEG Rdest,Rsrc (R266). -/
def execNeg (dest src : Reg) (s : State) : Result := s.done16 (s.setReg dest (0 - s.reg src))

/-- SUB Rdest,Rsrc (R267). -/
def execSub (dest src : Reg) (s : State) : Result := s.done16 (s.setReg dest (s.reg dest - s.reg src))

/-- SUBV Rdest,Rsrc (R268). -/
def execSubv (dest src : Reg) (s : State) : Result :=
  s.done16 ((s.setReg dest (s.reg dest - s.reg src)).setC (ovfSub (s.reg dest) (s.reg src)))

/-- SUBX Rdest,Rsrc (R269). -/
def execSubx (dest src : Reg) (s : State) : Result :=
  s.done16 ((s.setReg dest (s.reg dest - s.reg src - BitVec.ofNat 32 (bitNat s.c))).setC
    (borrow (s.reg dest) (s.reg src) s.c))

end Sys2Proof.Machine
end

