-- ==== Sys2Proof/Machine/BitEit.lean ====
section
/-! DEFINITION. BitEit: bit operations and EIT-related instructions (45_bit_eit.md). -/

namespace Sys2Proof.Machine

/-- BCLR #bitpos,@(disp16,Rsrc) (R380): a byte read and a byte write, also when the bit was 0. -/
def execBclr (bitpos : Fin 8) (src : Reg) (disp16 : BitVec 16) (s : State) : Result :=
  s.done32 (s.writeByte (s.eaDisp src disp16) (s.readByte (s.eaDisp src disp16) &&& ~~~ bitMask bitpos))

/-- BSET #bitpos,@(disp16,Rsrc) (R381). -/
def execBset (bitpos : Fin 8) (src : Reg) (disp16 : BitVec 16) (s : State) : Result :=
  s.done32 (s.writeByte (s.eaDisp src disp16) (s.readByte (s.eaDisp src disp16) ||| bitMask bitpos))

/-- BTST #bitpos,Rsrc (R382). -/
def execBtst (bitpos : Fin 8) (src : Reg) (s : State) : Result :=
  s.done16 (s.setC ((s.reg src).getLsbD (7 - bitpos.val)))

/-- PSW after CLRPSW (R383). -/
def clearPsw (p : Word) (imm8 : BitVec 8) : Word := p &&& ~~~ zext imm8

/-- PSW after SETPSW (R384): bits with no storage are not set (D11). -/
def setPsw (p : Word) (imm8 : BitVec 8) : Word := (p &&& 0xFFFFFF00) ||| ((p ||| zext imm8) &&& pswFieldMask)

/-- CLRPSW #imm8 (R383), privileged. With bit 0x08 it writes PM directly (R571, U9). -/
def execClrpsw (imm8 : BitVec 8) (s : State) : Result :=
  s.ifSupervisor (s.done16 ({ s with psw := clearPsw s.psw imm8 }.markPm (imm8.getLsbD 3)))

/-- SETPSW #imm8 (R384), privileged. With bit 0x08 it writes PM directly (R571, U9). -/
def execSetpsw (imm8 : BitVec 8) (s : State) : Result :=
  s.ifSupervisor (s.done16 ({ s with psw := setPsw s.psw imm8 }.markPm (imm8.getLsbD 3)))

/-- TRAP #imm4 (R385): the entry of R510 with BPC the address of the next instruction. -/
def execTrap (imm4 : Fin 16) (s : State) : Result := .next (s.enter (.trap imm4) s.npc16)

/-- RTE (R386), privileged. -/
def execRte (s : State) : Result := s.ifSupervisor (.next s.eitReturn)

end Sys2Proof.Machine
end

