-- ==== Sys2Proof/Machine/Branch.lean ====
section
/-! DEFINITION. Branch: the meanings of 44_branch.md. No branch changes C or accesses memory. Targets and links are
those of Machine/Operands.lean (R340, R341). -/

namespace Sys2Proof.Machine

/-- A 16-bit branch to `target`, or on to `npc` (R340). -/
def State.branch16 (s : State) (taken : Bool) (target : Word) : Result :=
  .next (s.goto (if taken then target else s.npc16))

/-- A 32-bit branch to `target`, or on to `npc` (R340). -/
def State.branch32 (s : State) (taken : Bool) (target : Word) : Result :=
  .next (s.goto (if taken then target else s.npc32))

/-- A taken branch that links: R14 receives the link value (R341). -/
def State.linkTo (s : State) (target : Word) : State := (s.setReg linkReg s.linkValue).goto target

/-- A 16-bit branch and link: R14 is written only when the branch is taken (R341). -/
def State.call16 (s : State) (taken : Bool) (target : Word) : Result :=
  .next (if taken then s.linkTo target else s.goto s.npc16)

/-- A 32-bit branch and link (R341). -/
def State.call32 (s : State) (taken : Bool) (target : Word) : Result :=
  .next (if taken then s.linkTo target else s.goto s.npc32)

/-- BC pcdisp8 (R342). -/
def execBc8 (pcdisp8 : BitVec 8) (s : State) : Result := s.branch16 s.c (s.pcTarget pcdisp8)

/-- BC pcdisp24 (R342). -/
def execBc24 (pcdisp24 : BitVec 24) (s : State) : Result := s.branch32 s.c (s.pcTarget pcdisp24)

/-- BCL pcdisp8 (R343). -/
def execBcl8 (pcdisp8 : BitVec 8) (s : State) : Result := s.call16 s.c (s.pcTarget pcdisp8)

/-- BCL pcdisp24 (R343). -/
def execBcl24 (pcdisp24 : BitVec 24) (s : State) : Result := s.call32 s.c (s.pcTarget pcdisp24)

/-- BNC pcdisp8 (R351). -/
def execBnc8 (pcdisp8 : BitVec 8) (s : State) : Result := s.branch16 (!s.c) (s.pcTarget pcdisp8)

/-- BNC pcdisp24 (R351). -/
def execBnc24 (pcdisp24 : BitVec 24) (s : State) : Result := s.branch32 (!s.c) (s.pcTarget pcdisp24)

/-- BNCL pcdisp8 (R352). -/
def execBncl8 (pcdisp8 : BitVec 8) (s : State) : Result := s.call16 (!s.c) (s.pcTarget pcdisp8)

/-- BNCL pcdisp24 (R352). -/
def execBncl24 (pcdisp24 : BitVec 24) (s : State) : Result := s.call32 (!s.c) (s.pcTarget pcdisp24)

/-- BL pcdisp8 (R348). -/
def execBl8 (pcdisp8 : BitVec 8) (s : State) : Result := s.call16 true (s.pcTarget pcdisp8)

/-- BL pcdisp24 (R348). -/
def execBl24 (pcdisp24 : BitVec 24) (s : State) : Result := s.call32 true (s.pcTarget pcdisp24)

/-- BRA pcdisp8 (R355). -/
def execBra8 (pcdisp8 : BitVec 8) (s : State) : Result := s.branch16 true (s.pcTarget pcdisp8)

/-- BRA pcdisp24 (R355). -/
def execBra24 (pcdisp24 : BitVec 24) (s : State) : Result := s.branch32 true (s.pcTarget pcdisp24)

/-- BEQ Rsrc1,Rsrc2,pcdisp16 (R344). -/
def execBeq (src1 src2 : Reg) (pcdisp16 : BitVec 16) (s : State) : Result :=
  s.branch32 (s.reg src1 == s.reg src2) (s.pcTarget pcdisp16)

/-- BNE Rsrc1,Rsrc2,pcdisp16 (R353). -/
def execBne (src1 src2 : Reg) (pcdisp16 : BitVec 16) (s : State) : Result :=
  s.branch32 (s.reg src1 != s.reg src2) (s.pcTarget pcdisp16)

/-- BEQZ Rsrc,pcdisp16 (R345). -/
def execBeqz (src : Reg) (pcdisp16 : BitVec 16) (s : State) : Result :=
  s.branch32 (s.reg src == 0) (s.pcTarget pcdisp16)

/-- BNEZ Rsrc,pcdisp16 (R354). -/
def execBnez (src : Reg) (pcdisp16 : BitVec 16) (s : State) : Result :=
  s.branch32 (s.reg src != 0) (s.pcTarget pcdisp16)

/-- BLTZ Rsrc,pcdisp16 (R350). -/
def execBltz (src : Reg) (pcdisp16 : BitVec 16) (s : State) : Result :=
  s.branch32 (decide ((s.reg src).toInt < 0)) (s.pcTarget pcdisp16)

/-- BGEZ Rsrc,pcdisp16 (R346). -/
def execBgez (src : Reg) (pcdisp16 : BitVec 16) (s : State) : Result :=
  s.branch32 (decide (0 ≤ (s.reg src).toInt)) (s.pcTarget pcdisp16)

/-- BLEZ Rsrc,pcdisp16 (R349). -/
def execBlez (src : Reg) (pcdisp16 : BitVec 16) (s : State) : Result :=
  s.branch32 (decide ((s.reg src).toInt ≤ 0)) (s.pcTarget pcdisp16)

/-- BGTZ Rsrc,pcdisp16 (R347). -/
def execBgtz (src : Reg) (pcdisp16 : BitVec 16) (s : State) : Result :=
  s.branch32 (decide (0 < (s.reg src).toInt)) (s.pcTarget pcdisp16)

/-- JC Rsrc (R356). -/
def execJc (src : Reg) (s : State) : Result := s.branch16 s.c (s.regTarget src)

/-- JNC Rsrc (R359). -/
def execJnc (src : Reg) (s : State) : Result := s.branch16 (!s.c) (s.regTarget src)

/-- JMP Rsrc (R358). -/
def execJmp (src : Reg) (s : State) : Result := s.branch16 true (s.regTarget src)

/-- JL Rsrc (R357): the register is read before the link is written, so JL R14 jumps to the old R14 (D25). -/
def execJl (src : Reg) (s : State) : Result := s.call16 true (s.regTarget src)

/-- NOP (R360). -/
def execNop (s : State) : Result := s.done16 s

/-- SC (R361). Its own effect is on the PC: with C = 1 it goes to the next word, else on to `npc`. In the upper half of a
sequential word this skips the lower half; in the lower half, and in a pair, both are the next word (R471, R472, D19).
That the partner in a pair is cancelled is said in Machine/Parallel.lean. -/
def execSc (s : State) : Result := s.branch16 s.c (wordBase s.pc + 4)

/-- SNC (R362): as SC, with C = 0. -/
def execSnc (s : State) : Result := s.branch16 (!s.c) (wordBase s.pc + 4)

end Sys2Proof.Machine
end

