-- ==== Sys2Proof/Machine/Compare.lean ====
section
/-! DEFINITION. Compare: the compare instructions of 42_compare_arith_logic.md section 2. They write C only. -/

namespace Sys2Proof.Machine

/-- CMP Rsrc1,Rsrc2 (R250). -/
def execCmp (src1 src2 : Reg) (s : State) : Result := s.done16 (s.setC (ltSigned (s.reg src1) (s.reg src2)))

/-- CMPEQ Rsrc1,Rsrc2 (R251). -/
def execCmpeq (src1 src2 : Reg) (s : State) : Result := s.done16 (s.setC (s.reg src1 == s.reg src2))

/-- CMPI Rsrc,#imm16 (R252). -/
def execCmpi (src : Reg) (imm16 : BitVec 16) (s : State) : Result :=
  s.done32 (s.setC (ltSigned (s.reg src) (sext imm16)))

/-- CMPU Rsrc1,Rsrc2 (R253). -/
def execCmpu (src1 src2 : Reg) (s : State) : Result := s.done16 (s.setC (ltUnsigned (s.reg src1) (s.reg src2)))

/-- CMPUI Rsrc,#imm16 (R254): sign-extended, then compared as unsigned. -/
def execCmpui (src : Reg) (imm16 : BitVec 16) (s : State) : Result :=
  s.done32 (s.setC (ltUnsigned (s.reg src) (sext imm16)))

/-- CMPZ Rsrc (R255). -/
def execCmpz (src : Reg) (s : State) : Result := s.done16 (s.setC (s.reg src == 0))

/-- PCMPBZ Rsrc (R256). -/
def execPcmpbz (src : Reg) (s : State) : Result := s.done16 (s.setC (anyByteZero (s.reg src)))

end Sys2Proof.Machine
end

