-- ==== Sys2Proof/Machine/Coprocessor.lean ====
section
/-! DEFINITION. Coprocessor: the meanings of 47_coprocessor.md, over the abstract interface of R450 (log 31). They are
not privileged; CDE is raised before any effect when the coprocessor is not enabled (R454). -/

namespace Sys2Proof.Machine

/-- MVTCP Rsrc,CPRdest,inst,cpid (R451). -/
def execMvtcp (src : Reg) (cpr : CpReg) (inst : BitVec 8) (cpid : CpNum) (s : State) : Result :=
  s.ifCoprocessor cpid (s.done32 (s.copDo (.write cpid cpr inst (s.reg src))))

/-- MVFCP Rdest,CPRsrc,inst,cpid (R452): the value is whatever the coprocessor returns. -/
def execMvfcp (dest : Reg) (cpr : CpReg) (inst : BitVec 8) (cpid : CpNum) (s : State) : Result :=
  s.ifCoprocessor cpid
    (s.done32 ((s.setReg dest (Config.copValue s.copLog cpid cpr inst)).copDo (.read cpid cpr inst)))

/-- OPECP CPRdest,CPRsrc,inst,cpid (R453): no CPU register, flag or memory location changes. -/
def execOpecp (cpdest cpsrc : CpReg) (inst : BitVec 8) (cpid : CpNum) (s : State) : Result :=
  s.ifCoprocessor cpid (s.done32 (s.copDo (.operate cpid cpdest cpsrc inst)))

end Sys2Proof.Machine
end

