-- ==== Sys2Proof/Machine/Dsp.lean ====
section
/-! DEFINITION. Dsp: the meanings of 46_dsp.md. Accumulator results are computed on exact integers and stored modulo
2^56 (R430). C and memory do not change. -/

namespace Sys2Proof.Machine

/-- hi16(v) (R430). -/
def hi16 (v : Word) : Int := (v.extractLsb' 16 16).toInt

/-- lo16(v) (R430). -/
def lo16 (v : Word) : Int := (v.extractLsb' 0 16).toInt

/-- ulo16(v) (R430). -/
def ulo16 (v : Word) : Int := (v.extractLsb' 0 16).toNat

/-- w32(v) (R430). -/
def w32 (v : Word) : Int := v.toInt

/-- A64(a) as an integer (R430). -/
def State.accInt (s : State) (a : Acc) : Int := (s.a64 a).toInt

/-- A64(a) <- A64(a) + v (R430). -/
def State.accumulate (s : State) (a : Acc) (v : Int) : State := s.setAccInt a (s.accInt a + v)

/-- MULHI Rsrc1,Rsrc2,Adest (R407). -/
def execMulhi (src1 src2 : Reg) (acc : Acc) (s : State) : Result :=
  s.done16 (s.setAccInt acc (hi16 (s.reg src1) * hi16 (s.reg src2) * 65536))

/-- MULLO Rsrc1,Rsrc2,Adest (R408). -/
def execMullo (src1 src2 : Reg) (acc : Acc) (s : State) : Result :=
  s.done16 (s.setAccInt acc (lo16 (s.reg src1) * lo16 (s.reg src2) * 65536))

/-- MULWHI Rsrc1,Rsrc2 (R409). -/
def execMulwhi (src1 src2 : Reg) (s : State) : Result :=
  s.done16 (s.setAccInt .a0 (w32 (s.reg src1) * hi16 (s.reg src2)))

/-- MULWLO Rsrc1,Rsrc2 (R410). -/
def execMulwlo (src1 src2 : Reg) (s : State) : Result :=
  s.done16 (s.setAccInt .a0 (w32 (s.reg src1) * lo16 (s.reg src2)))

/-- MULWU1 Rsrc1,Rsrc2 (R411). -/
def execMulwu1 (src1 src2 : Reg) (s : State) : Result :=
  s.done16 (s.setAccInt .a1 (w32 (s.reg src1) * ulo16 (s.reg src2)))

/-- MACHI Rsrc1,Rsrc2,Adest (R400). -/
def execMachi (src1 src2 : Reg) (acc : Acc) (s : State) : Result :=
  s.done16 (s.accumulate acc (hi16 (s.reg src1) * hi16 (s.reg src2) * 65536))

/-- MACLH1 Rsrc1,Rsrc2 (R401). -/
def execMaclh1 (src1 src2 : Reg) (s : State) : Result :=
  s.done16 (s.accumulate .a1 (lo16 (s.reg src1) * hi16 (s.reg src2) * 65536))

/-- MACLO Rsrc1,Rsrc2,Adest (R402). -/
def execMaclo (src1 src2 : Reg) (acc : Acc) (s : State) : Result :=
  s.done16 (s.accumulate acc (lo16 (s.reg src1) * lo16 (s.reg src2) * 65536))

/-- MACWHI Rsrc1,Rsrc2 (R403). -/
def execMacwhi (src1 src2 : Reg) (s : State) : Result :=
  s.done16 (s.accumulate .a0 (w32 (s.reg src1) * hi16 (s.reg src2)))

/-- MACWLO Rsrc1,Rsrc2 (R404). -/
def execMacwlo (src1 src2 : Reg) (s : State) : Result :=
  s.done16 (s.accumulate .a0 (w32 (s.reg src1) * lo16 (s.reg src2)))

/-- MACWU1 Rsrc1,Rsrc2 (R405). -/
def execMacwu1 (src1 src2 : Reg) (s : State) : Result :=
  s.done16 (s.accumulate .a1 (w32 (s.reg src1) * ulo16 (s.reg src2)))

/-- MSBLO Rsrc1,Rsrc2 (R406). -/
def execMsblo (src1 src2 : Reg) (s : State) : Result :=
  s.done16 (s.accumulate .a0 (-(lo16 (s.reg src1) * lo16 (s.reg src2) * 65536)))

/-- SADD (R419): A1 arithmetically shifted right by 16 (floor of the division by 2^16) is added to A0. -/
def execSadd (s : State) : Result := s.done16 (s.accumulate .a0 (Int.fdiv (s.accInt .a1) 65536))

/-- The rounding of RAC and RACH (R417, R418): add half, saturate, truncate to a multiple of `unit`. -/
def roundTo (half limit unit tmp : Int) : Int :=
  if limit < tmp + half then limit
  else if tmp + half < -140737488355328 then -140737488355328
  else Int.fdiv (tmp + half) unit * unit

/-- RAC: half 0x8000, limit 0x00007FFF_FFFF0000, low 16 bits cleared (R417). -/
def roundWord (tmp : Int) : Int := roundTo 0x8000 0x00007FFFFFFF0000 0x10000 tmp

/-- RACH: half 0x80000000, limit 0x00007FFF_00000000, low 32 bits cleared (R418). -/
def roundHalf (tmp : Int) : Int := roundTo 0x80000000 0x00007FFF00000000 0x100000000 tmp

/-- RAC Adest,Asrc,#imm1 (R417). -/
def execRac (adest asrc : Acc) (imm1 : Nat) (s : State) : Result :=
  s.done16 (s.setAccInt adest (roundWord (s.accInt asrc * 2 ^ imm1)))

/-- RACH Adest,Asrc,#imm1 (R418). -/
def execRach (adest asrc : Acc) (imm1 : Nat) (s : State) : Result :=
  s.done16 (s.setAccInt adest (roundHalf (s.accInt asrc * 2 ^ imm1)))

/-- MVFACHI Rdest,Asrc (R412): A64[63:32]. -/
def execMvfachi (dest : Reg) (acc : Acc) (s : State) : Result :=
  s.done16 (s.setReg dest ((s.a64 acc).extractLsb' 32 32))

/-- MVFACLO Rdest,Asrc (R413): A64[31:0]. -/
def execMvfaclo (dest : Reg) (acc : Acc) (s : State) : Result :=
  s.done16 (s.setReg dest ((s.a64 acc).extractLsb' 0 32))

/-- MVFACMI Rdest,Asrc (R414): A64[47:16]. -/
def execMvfacmi (dest : Reg) (acc : Acc) (s : State) : Result :=
  s.done16 (s.setReg dest ((s.a64 acc).extractLsb' 16 32))

/-- MVTACHI Rsrc,Adest (R415): x[s][31:24] is discarded. -/
def execMvtachi (src : Reg) (acc : Acc) (s : State) : Result :=
  s.done16 (s.setAcc acc ((s.reg src).extractLsb' 0 24 ++ (s.acc acc).extractLsb' 0 32))

/-- MVTACLO Rsrc,Adest (R416). -/
def execMvtaclo (src : Reg) (acc : Acc) (s : State) : Result :=
  s.done16 (s.setAcc acc ((s.acc acc).extractLsb' 32 24 ++ s.reg src))

/-- Saturation of a signed word between two bounds (R420, R421). -/
def saturate (lo hi : Int) (v : Word) : Word :=
  if hi ≤ v.toInt then BitVec.ofInt 32 hi else if v.toInt ≤ lo then BitVec.ofInt 32 lo else v

/-- SATB Rdest,Rsrc (R420). -/
def execSatb (dest src : Reg) (s : State) : Result := s.done32 (s.setReg dest (saturate (-128) 127 (s.reg src)))

/-- SATH Rdest,Rsrc (R421). -/
def execSath (dest src : Reg) (s : State) : Result :=
  s.done32 (s.setReg dest (saturate (-32768) 32767 (s.reg src)))

end Sys2Proof.Machine
end

