-- ==== Sys2Proof/Machine/LoadStore.lean ====
section
/-! DEFINITION. LoadStore: the meanings of 40_load_store.md. Register operands are read before anything is written
(R212); the alignment check comes before every other effect (R211). C does not change. -/

namespace Sys2Proof.Machine

/-- A word load into `d`, without address update (R200). -/
def State.loadWord (s : State) (d : Reg) (ea : Word) : State := s.setReg d (s.readWord ea)

/-- A sign-extended byte load (R201). -/
def State.loadByteSigned (s : State) (d : Reg) (ea : Word) : State := s.setReg d (sext (s.readByte ea))

/-- A zero-extended byte load (R202). -/
def State.loadByteUnsigned (s : State) (d : Reg) (ea : Word) : State := s.setReg d (zext (s.readByte ea))

/-- A sign-extended halfword load (R203). -/
def State.loadHalfSigned (s : State) (d : Reg) (ea : Word) : State := s.setReg d (sext (s.readHalf ea))

/-- A zero-extended halfword load (R204). -/
def State.loadHalfUnsigned (s : State) (d : Reg) (ea : Word) : State := s.setReg d (zext (s.readHalf ea))

/-- A store of register `a`'s word (R206). -/
def State.storeWord (s : State) (a : Reg) (ea : Word) : State := s.writeWord ea (s.reg a)

/-- A store of register `a`'s low byte (R207). -/
def State.storeByte (s : State) (a : Reg) (ea : Word) : State := s.writeByte ea ((s.reg a).extractLsb' 0 8)

/-- A store of register `a`'s low halfword (R208). -/
def State.storeHalf (s : State) (a : Reg) (ea : Word) : State := s.writeHalf ea ((s.reg a).extractLsb' 0 16)

/-- LD Rdest,@Rsrc (R200 form 1). -/
def execLd (dest src : Reg) (s : State) : Result :=
  s.ifAligned (s.eaReg src) 4 (s.done16 (s.loadWord dest (s.eaReg src)))

/-- LD Rdest,@Rsrc+ (R200 form 2). With `dest = src` the instruction writes one register twice, for which the spec
defines no next state (R212, R475, U12): refused (log 27), after the alignment check. -/
def execLdInc (dest src : Reg) (s : State) : Result :=
  s.ifAligned (s.eaReg src) 4
    (if dest = src then .refused .registerWrittenTwice
     else s.done16 ((s.setReg src (s.reg src + 4)).setReg dest (s.readWord (s.eaReg src))))

/-- LD Rdest,@(disp16,Rsrc) (R200 form 3). -/
def execLdDisp (dest src : Reg) (disp16 : BitVec 16) (s : State) : Result :=
  s.ifAligned (s.eaDisp src disp16) 4 (s.done32 (s.loadWord dest (s.eaDisp src disp16)))

/-- LDB Rdest,@Rsrc (R201 form 1). -/
def execLdb (dest src : Reg) (s : State) : Result := s.done16 (s.loadByteSigned dest (s.eaReg src))

/-- LDB Rdest,@(disp16,Rsrc) (R201 form 2). -/
def execLdbDisp (dest src : Reg) (disp16 : BitVec 16) (s : State) : Result :=
  s.done32 (s.loadByteSigned dest (s.eaDisp src disp16))

/-- LDUB Rdest,@Rsrc (R202 form 1). -/
def execLdub (dest src : Reg) (s : State) : Result := s.done16 (s.loadByteUnsigned dest (s.eaReg src))

/-- LDUB Rdest,@(disp16,Rsrc) (R202 form 2). -/
def execLdubDisp (dest src : Reg) (disp16 : BitVec 16) (s : State) : Result :=
  s.done32 (s.loadByteUnsigned dest (s.eaDisp src disp16))

/-- LDH Rdest,@Rsrc (R203 form 1). -/
def execLdh (dest src : Reg) (s : State) : Result :=
  s.ifAligned (s.eaReg src) 2 (s.done16 (s.loadHalfSigned dest (s.eaReg src)))

/-- LDH Rdest,@(disp16,Rsrc) (R203 form 2). -/
def execLdhDisp (dest src : Reg) (disp16 : BitVec 16) (s : State) : Result :=
  s.ifAligned (s.eaDisp src disp16) 2 (s.done32 (s.loadHalfSigned dest (s.eaDisp src disp16)))

/-- LDUH Rdest,@Rsrc (R204 form 1). -/
def execLduh (dest src : Reg) (s : State) : Result :=
  s.ifAligned (s.eaReg src) 2 (s.done16 (s.loadHalfUnsigned dest (s.eaReg src)))

/-- LDUH Rdest,@(disp16,Rsrc) (R204 form 2). -/
def execLduhDisp (dest src : Reg) (disp16 : BitVec 16) (s : State) : Result :=
  s.ifAligned (s.eaDisp src disp16) 2 (s.done32 (s.loadHalfUnsigned dest (s.eaDisp src disp16)))

/-- LOCK Rdest,@Rsrc (R205): LOCK <- 1 and a word load. -/
def execLock (dest src : Reg) (s : State) : Result :=
  s.ifAligned (s.eaReg src) 4 (s.done16 { s.loadWord dest (s.eaReg src) with lock := true })

/-- ST Rsrc1,@Rsrc2 (R206 form 1). -/
def execSt (src1 src2 : Reg) (s : State) : Result :=
  s.ifAligned (s.eaReg src2) 4 (s.done16 (s.storeWord src1 (s.eaReg src2)))

/-- ST Rsrc1,@+Rsrc2 (R206 form 2). -/
def execStPreInc (src1 src2 : Reg) (s : State) : Result :=
  s.ifAligned (s.eaPreInc src2) 4
    (s.done16 ((s.storeWord src1 (s.eaPreInc src2)).setReg src2 (s.eaPreInc src2)))

/-- ST Rsrc1,@-Rsrc2 (R206 form 3). -/
def execStPreDec (src1 src2 : Reg) (s : State) : Result :=
  s.ifAligned (s.eaPreDec src2) 4
    (s.done16 ((s.storeWord src1 (s.eaPreDec src2)).setReg src2 (s.eaPreDec src2)))

/-- ST Rsrc1,@(disp16,Rsrc2) (R206 form 4). -/
def execStDisp (src1 src2 : Reg) (disp16 : BitVec 16) (s : State) : Result :=
  s.ifAligned (s.eaDisp src2 disp16) 4 (s.done32 (s.storeWord src1 (s.eaDisp src2 disp16)))

/-- STB Rsrc1,@Rsrc2 (R207 form 1). -/
def execStb (src1 src2 : Reg) (s : State) : Result := s.done16 (s.storeByte src1 (s.eaReg src2))

/-- STB Rsrc1,@Rsrc2+ (R207 form 2). -/
def execStbInc (src1 src2 : Reg) (s : State) : Result :=
  s.done16 ((s.storeByte src1 (s.eaReg src2)).setReg src2 (s.reg src2 + 1))

/-- STB Rsrc1,@(disp16,Rsrc2) (R207 form 3). -/
def execStbDisp (src1 src2 : Reg) (disp16 : BitVec 16) (s : State) : Result :=
  s.done32 (s.storeByte src1 (s.eaDisp src2 disp16))

/-- STH Rsrc1,@Rsrc2 (R208 form 1). -/
def execSth (src1 src2 : Reg) (s : State) : Result :=
  s.ifAligned (s.eaReg src2) 2 (s.done16 (s.storeHalf src1 (s.eaReg src2)))

/-- STH Rsrc1,@Rsrc2+ (R208 form 2). -/
def execSthInc (src1 src2 : Reg) (s : State) : Result :=
  s.ifAligned (s.eaReg src2) 2
    (s.done16 ((s.storeHalf src1 (s.eaReg src2)).setReg src2 (s.reg src2 + 2)))

/-- STH Rsrc1,@(disp16,Rsrc2) (R208 form 3). -/
def execSthDisp (src1 src2 : Reg) (disp16 : BitVec 16) (s : State) : Result :=
  s.ifAligned (s.eaDisp src2 disp16) 2 (s.done32 (s.storeHalf src1 (s.eaDisp src2 disp16)))

/-- UNLOCK Rsrc1,@Rsrc2 (R209): alignment is checked whether or not LOCK = 1 (D21, log 19). -/
def execUnlock (src1 src2 : Reg) (s : State) : Result :=
  s.ifAligned (s.eaReg src2) 4
    (s.done16 { (if s.lock then s.storeWord src1 (s.eaReg src2) else s) with lock := false })

end Sys2Proof.Machine
end

