-- ==== Sys2Proof/Machine/Logic.lean ====
section
/-! DEFINITION. Logic: the logic instructions of 42_compare_arith_logic.md section 4. C does not change. -/

namespace Sys2Proof.Machine

/-- AND Rdest,Rsrc (R270). -/
def execAnd (dest src : Reg) (s : State) : Result := s.done16 (s.setReg dest (s.reg dest &&& s.reg src))

/-- AND3 Rdest,Rsrc,#imm16 (R271). -/
def execAnd3 (dest src : Reg) (imm16 : BitVec 16) (s : State) : Result :=
  s.done32 (s.setReg dest (s.reg src &&& zext imm16))

/-- NOT Rdest,Rsrc (R272). -/
def execNot (dest src : Reg) (s : State) : Result := s.done16 (s.setReg dest (~~~ s.reg src))

/-- OR Rdest,Rsrc (R273). -/
def execOr (dest src : Reg) (s : State) : Result := s.done16 (s.setReg dest (s.reg dest ||| s.reg src))

/-- OR3 Rdest,Rsrc,#imm16 (R274). -/
def execOr3 (dest src : Reg) (imm16 : BitVec 16) (s : State) : Result :=
  s.done32 (s.setReg dest (s.reg src ||| zext imm16))

/-- XOR Rdest,Rsrc (R275). -/
def execXor (dest src : Reg) (s : State) : Result := s.done16 (s.setReg dest (s.reg dest ^^^ s.reg src))

/-- XOR3 Rdest,Rsrc,#imm16 (R276). -/
def execXor3 (dest src : Reg) (imm16 : BitVec 16) (s : State) : Result :=
  s.done32 (s.setReg dest (s.reg src ^^^ zext imm16))

end Sys2Proof.Machine
end

