-- ==== Sys2Proof/Machine/MulDiv.lean ====
section
/-! DEFINITION. MulDiv: multiply, divide and remainder (43_muldiv_shift.md section 1). C does not change. Division is
on exact integers, rounded toward 0, and the remainder has the sign of the dividend (R313). -/

namespace Sys2Proof.Machine

/-- x[d] <- trunc(n / m), or nothing when m = 0 (R313 c, d, e). -/
def State.divideInto (s : State) (d : Reg) (n m : Int) : State :=
  if m = 0 then s else s.setReg d (BitVec.ofInt 32 (n.tdiv m))

/-- x[d] <- n - trunc(n / m) * m, or nothing when m = 0 (R313 c, d, e). -/
def State.remainderInto (s : State) (d : Reg) (n m : Int) : State :=
  if m = 0 then s else s.setReg d (BitVec.ofInt 32 (n.tmod m))

/-- The dividend `signed(x[d])`. -/
def State.signedWord (s : State) (r : Reg) : Int := (s.reg r).toInt

/-- The dividend `signed(x[d][15:0])` (R302). -/
def State.signedHalf (s : State) (r : Reg) : Int := ((s.reg r).extractLsb' 0 16).toInt

/-- The dividend `signed(x[d][7:0])` (R301). -/
def State.signedByte (s : State) (r : Reg) : Int := ((s.reg r).extractLsb' 0 8).toInt

/-- The dividend `unsigned(x[d])`. -/
def State.unsignedWord (s : State) (r : Reg) : Int := (s.reg r).toNat

/-- The dividend `unsigned(x[d][15:0])` (R305). -/
def State.unsignedHalf (s : State) (r : Reg) : Int := ((s.reg r).extractLsb' 0 16).toNat

/-- The dividend `unsigned(x[d][7:0])` (R304). -/
def State.unsignedByte (s : State) (r : Reg) : Int := ((s.reg r).extractLsb' 0 8).toNat

/-- MUL Rdest,Rsrc (R306): the low 32 bits of the product; both accumulators are destroyed (R52, U3, log 25). -/
def execMul (dest src : Reg) (s : State) : Result :=
  s.done16 ((s.setReg dest (BitVec.ofInt 32 (s.signedWord dest * s.signedWord src))).destroyAccs)

/-- DIV Rdest,Rsrc (R300). -2^31 / -1 leaves an unspecified word in Rdest (R314, U13, log 26). -/
def execDiv (dest src : Reg) (s : State) : Result :=
  if s.signedWord dest = -2147483648 ∧ s.signedWord src = -1 then
    s.done32 ((s.setReg dest s.freeWord).useFree 1)
  else s.done32 (s.divideInto dest (s.signedWord dest) (s.signedWord src))

/-- DIVB Rdest,Rsrc (R301). -/
def execDivb (dest src : Reg) (s : State) : Result :=
  s.done32 (s.divideInto dest (s.signedByte dest) (s.signedWord src))

/-- DIVH Rdest,Rsrc (R302). -/
def execDivh (dest src : Reg) (s : State) : Result :=
  s.done32 (s.divideInto dest (s.signedHalf dest) (s.signedWord src))

/-- DIVU Rdest,Rsrc (R303). -/
def execDivu (dest src : Reg) (s : State) : Result :=
  s.done32 (s.divideInto dest (s.unsignedWord dest) (s.unsignedWord src))

/-- DIVUB Rdest,Rsrc (R304). -/
def execDivub (dest src : Reg) (s : State) : Result :=
  s.done32 (s.divideInto dest (s.unsignedByte dest) (s.unsignedWord src))

/-- DIVUH Rdest,Rsrc (R305). -/
def execDivuh (dest src : Reg) (s : State) : Result :=
  s.done32 (s.divideInto dest (s.unsignedHalf dest) (s.unsignedWord src))

/-- REM Rdest,Rsrc (R307). -/
def execRem (dest src : Reg) (s : State) : Result :=
  s.done32 (s.remainderInto dest (s.signedWord dest) (s.signedWord src))

/-- REMB Rdest,Rsrc (R308). -/
def execRemb (dest src : Reg) (s : State) : Result :=
  s.done32 (s.remainderInto dest (s.signedByte dest) (s.signedWord src))

/-- REMH Rdest,Rsrc (R309). -/
def execRemh (dest src : Reg) (s : State) : Result :=
  s.done32 (s.remainderInto dest (s.signedHalf dest) (s.signedWord src))

/-- REMU Rdest,Rsrc (R310). -/
def execRemu (dest src : Reg) (s : State) : Result :=
  s.done32 (s.remainderInto dest (s.unsignedWord dest) (s.unsignedWord src))

/-- REMUB Rdest,Rsrc (R311). -/
def execRemub (dest src : Reg) (s : State) : Result :=
  s.done32 (s.remainderInto dest (s.unsignedByte dest) (s.unsignedWord src))

/-- REMUH Rdest,Rsrc (R312). -/
def execRemuh (dest src : Reg) (s : State) : Result :=
  s.done32 (s.remainderInto dest (s.unsignedHalf dest) (s.unsignedWord src))

end Sys2Proof.Machine
end

