-- ==== Sys2Proof/Machine/Shift.lean ====
section
/-! DEFINITION. Shift: the shifts of 43_muldiv_shift.md section 2. The count is 0 to 31 (R329). C does not change. -/

namespace Sys2Proof.Machine

/-- SLL Rdest,Rsrc (R320). -/
def execSll (dest src : Reg) (s : State) : Result :=
  s.done16 (s.setReg dest (s.reg dest <<< shiftCount (s.reg src)))

/-- SLL3 Rdest,Rsrc,#imm16 (R321). -/
def execSll3 (dest src : Reg) (imm16 : BitVec 16) (s : State) : Result :=
  s.done32 (s.setReg dest (s.reg src <<< shiftCount16 imm16))

/-- SLLI Rdest,#imm5 (R322). -/
def execSlli (dest : Reg) (imm5 : BitVec 5) (s : State) : Result :=
  s.done16 (s.setReg dest (s.reg dest <<< imm5.toNat))

/-- SRA Rdest,Rsrc (R323). -/
def execSra (dest src : Reg) (s : State) : Result :=
  s.done16 (s.setReg dest ((s.reg dest).sshiftRight (shiftCount (s.reg src))))

/-- SRA3 Rdest,Rsrc,#imm16 (R324). -/
def execSra3 (dest src : Reg) (imm16 : BitVec 16) (s : State) : Result :=
  s.done32 (s.setReg dest ((s.reg src).sshiftRight (shiftCount16 imm16)))

/-- SRAI Rdest,#imm5 (R325). -/
def execSrai (dest : Reg) (imm5 : BitVec 5) (s : State) : Result :=
  s.done16 (s.setReg dest ((s.reg dest).sshiftRight (imm5.toNat)))

/-- SRL Rdest,Rsrc (R326). -/
def execSrl (dest src : Reg) (s : State) : Result :=
  s.done16 (s.setReg dest (s.reg dest >>> shiftCount (s.reg src)))

/-- SRL3 Rdest,Rsrc,#imm16 (R327). -/
def execSrl3 (dest src : Reg) (imm16 : BitVec 16) (s : State) : Result :=
  s.done32 (s.setReg dest (s.reg src >>> shiftCount16 imm16))

/-- SRLI Rdest,#imm5 (R328). -/
def execSrli (dest : Reg) (imm5 : BitVec 5) (s : State) : Result :=
  s.done16 (s.setReg dest (s.reg dest >>> imm5.toNat))

end Sys2Proof.Machine
end

