-- ==== Sys2Proof/Machine/Transfer.lean ====
section
/-! DEFINITION. Transfer: the meanings of 41_transfer.md. -/

namespace Sys2Proof.Machine

/-- LD24 Rdest,#imm24 (R230). -/
def execLd24 (dest : Reg) (imm24 : BitVec 24) (s : State) : Result := s.done32 (s.setReg dest (zext imm24))

/-- LDI Rdest,#imm8 (R231 form 1). -/
def execLdi8 (dest : Reg) (imm8 : BitVec 8) (s : State) : Result := s.done16 (s.setReg dest (sext imm8))

/-- LDI Rdest,#imm16 (R231 form 2). -/
def execLdi16 (dest : Reg) (imm16 : BitVec 16) (s : State) : Result := s.done32 (s.setReg dest (sext imm16))

/-- MV Rdest,Rsrc (R232). -/
def execMv (dest src : Reg) (s : State) : Result := s.done16 (s.setReg dest (s.reg src))

/-- MVFC Rdest,CRsrc (R233). A number that names no register: U7, log 28. -/
def execMvfc (dest : Reg) (cr : CrNum) (s : State) : Result :=
  match s.readCr cr with
  | some v => s.done16 (s.setReg dest v)
  | none => .refused (.noControlRegister cr)

/-- MVTC Rsrc,CRdest (R234), privileged whatever the number is. Refused: a number that names no register (U7, log 28), and
EVB when it has been written since reset (R44, U10, log 7). -/
def execMvtc (src : Reg) (cr : CrNum) (s : State) : Result :=
  s.ifSupervisor
    (match s.writeCr cr (s.reg src) with
     | .ok t => s.done16 t
     | .error r => .refused r)

/-- SETH Rdest,#imm16 (R235). -/
def execSeth (dest : Reg) (imm16 : BitVec 16) (s : State) : Result := s.done32 (s.setReg dest (imm16 ++ 0#16))

end Sys2Proof.Machine
end

