-- ==== Sys2Proof/Machine/Dispatch.lean ====
section
/-! DEFINITION. Dispatch: one arm for each constructor of Instr, each one call of the instruction's meaning. -/

namespace Sys2Proof.Machine

def exec (i : Instr) (s : State) : Host.Outcome State Fault Refusal :=
  match i with
  | .subv dest src => Sys2Proof.Machine.execSubv dest src s
  | .subx dest src => Sys2Proof.Machine.execSubx dest src s
  | .sub dest src => Sys2Proof.Machine.execSub dest src s
  | .neg dest src => Sys2Proof.Machine.execNeg dest src s
  | .cmp src1 src2 => Sys2Proof.Machine.execCmp src1 src2 s
  | .cmpu src1 src2 => Sys2Proof.Machine.execCmpu src1 src2 s
  | .cmpeq src1 src2 => Sys2Proof.Machine.execCmpeq src1 src2 s
  | .cmpz src => Sys2Proof.Machine.execCmpz src s
  | .addv dest src => Sys2Proof.Machine.execAddv dest src s
  | .addx dest src => Sys2Proof.Machine.execAddx dest src s
  | .add dest src => Sys2Proof.Machine.execAdd dest src s
  | .not dest src => Sys2Proof.Machine.execNot dest src s
  | .and dest src => Sys2Proof.Machine.execAnd dest src s
  | .xor dest src => Sys2Proof.Machine.execXor dest src s
  | .or dest src => Sys2Proof.Machine.execOr dest src s
  | .btst bitpos src => Sys2Proof.Machine.execBtst bitpos src s
  | .pcmpbz src => Sys2Proof.Machine.execPcmpbz src s
  | .srl dest src => Sys2Proof.Machine.execSrl dest src s
  | .sra dest src => Sys2Proof.Machine.execSra dest src s
  | .sll dest src => Sys2Proof.Machine.execSll dest src s
  | .mul dest src => Sys2Proof.Machine.execMul dest src s
  | .mv dest src => Sys2Proof.Machine.execMv dest src s
  | .mvfc dest cr => Sys2Proof.Machine.execMvfc dest cr s
  | .mvtc src cr => Sys2Proof.Machine.execMvtc src cr s
  | .rte => Sys2Proof.Machine.execRte s
  | .trap imm4 => Sys2Proof.Machine.execTrap imm4 s
  | .jc src => Sys2Proof.Machine.execJc src s
  | .jnc src => Sys2Proof.Machine.execJnc src s
  | .jl src => Sys2Proof.Machine.execJl src s
  | .jmp src => Sys2Proof.Machine.execJmp src s
  | .stb src1 src2 => Sys2Proof.Machine.execStb src1 src2 s
  | .stbInc src1 src2 => Sys2Proof.Machine.execStbInc src1 src2 s
  | .sth src1 src2 => Sys2Proof.Machine.execSth src1 src2 s
  | .sthInc src1 src2 => Sys2Proof.Machine.execSthInc src1 src2 s
  | .st src1 src2 => Sys2Proof.Machine.execSt src1 src2 s
  | .unlock src1 src2 => Sys2Proof.Machine.execUnlock src1 src2 s
  | .stPreInc src1 src2 => Sys2Proof.Machine.execStPreInc src1 src2 s
  | .stPreDec src1 src2 => Sys2Proof.Machine.execStPreDec src1 src2 s
  | .ldb dest src => Sys2Proof.Machine.execLdb dest src s
  | .ldub dest src => Sys2Proof.Machine.execLdub dest src s
  | .ldh dest src => Sys2Proof.Machine.execLdh dest src s
  | .lduh dest src => Sys2Proof.Machine.execLduh dest src s
  | .ld dest src => Sys2Proof.Machine.execLd dest src s
  | .lock dest src => Sys2Proof.Machine.execLock dest src s
  | .ldInc dest src => Sys2Proof.Machine.execLdInc dest src s
  | .mulhi src1 src2 acc => Sys2Proof.Machine.execMulhi src1 src2 acc s
  | .mullo src1 src2 acc => Sys2Proof.Machine.execMullo src1 src2 acc s
  | .mulwhi src1 src2 => Sys2Proof.Machine.execMulwhi src1 src2 s
  | .mulwlo src1 src2 => Sys2Proof.Machine.execMulwlo src1 src2 s
  | .machi src1 src2 acc => Sys2Proof.Machine.execMachi src1 src2 acc s
  | .maclo src1 src2 acc => Sys2Proof.Machine.execMaclo src1 src2 acc s
  | .macwhi src1 src2 => Sys2Proof.Machine.execMacwhi src1 src2 s
  | .macwlo src1 src2 => Sys2Proof.Machine.execMacwlo src1 src2 s
  | .addi dest imm8 => Sys2Proof.Machine.execAddi dest imm8 s
  | .srli dest imm5 => Sys2Proof.Machine.execSrli dest imm5 s
  | .srai dest imm5 => Sys2Proof.Machine.execSrai dest imm5 s
  | .slli dest imm5 => Sys2Proof.Machine.execSlli dest imm5 s
  | .mvtachi src acc => Sys2Proof.Machine.execMvtachi src acc s
  | .mvtaclo src acc => Sys2Proof.Machine.execMvtaclo src acc s
  | .rach adest asrc imm1 => Sys2Proof.Machine.execRach adest asrc imm1 s
  | .rac adest asrc imm1 => Sys2Proof.Machine.execRac adest asrc imm1 s
  | .mulwu1 src1 src2 => Sys2Proof.Machine.execMulwu1 src1 src2 s
  | .macwu1 src1 src2 => Sys2Proof.Machine.execMacwu1 src1 src2 s
  | .maclh1 src1 src2 => Sys2Proof.Machine.execMaclh1 src1 src2 s
  | .msblo src1 src2 => Sys2Proof.Machine.execMsblo src1 src2 s
  | .sadd => Sys2Proof.Machine.execSadd s
  | .mvfachi dest acc => Sys2Proof.Machine.execMvfachi dest acc s
  | .mvfaclo dest acc => Sys2Proof.Machine.execMvfaclo dest acc s
  | .mvfacmi dest acc => Sys2Proof.Machine.execMvfacmi dest acc s
  | .ldi8 dest imm8 => Sys2Proof.Machine.execLdi8 dest imm8 s
  | .nop => Sys2Proof.Machine.execNop s
  | .setpsw imm8 => Sys2Proof.Machine.execSetpsw imm8 s
  | .clrpsw imm8 => Sys2Proof.Machine.execClrpsw imm8 s
  | .sc => Sys2Proof.Machine.execSc s
  | .snc => Sys2Proof.Machine.execSnc s
  | .bcl8 pcdisp8 => Sys2Proof.Machine.execBcl8 pcdisp8 s
  | .bncl8 pcdisp8 => Sys2Proof.Machine.execBncl8 pcdisp8 s
  | .bc8 pcdisp8 => Sys2Proof.Machine.execBc8 pcdisp8 s
  | .bnc8 pcdisp8 => Sys2Proof.Machine.execBnc8 pcdisp8 s
  | .bl8 pcdisp8 => Sys2Proof.Machine.execBl8 pcdisp8 s
  | .bra8 pcdisp8 => Sys2Proof.Machine.execBra8 pcdisp8 s
  | .cmpi src imm16 => Sys2Proof.Machine.execCmpi src imm16 s
  | .cmpui src imm16 => Sys2Proof.Machine.execCmpui src imm16 s
  | .sath dest src => Sys2Proof.Machine.execSath dest src s
  | .satb dest src => Sys2Proof.Machine.execSatb dest src s
  | .addv3 dest src imm16 => Sys2Proof.Machine.execAddv3 dest src imm16 s
  | .add3 dest src imm16 => Sys2Proof.Machine.execAdd3 dest src imm16 s
  | .and3 dest src imm16 => Sys2Proof.Machine.execAnd3 dest src imm16 s
  | .xor3 dest src imm16 => Sys2Proof.Machine.execXor3 dest src imm16 s
  | .or3 dest src imm16 => Sys2Proof.Machine.execOr3 dest src imm16 s
  | .div dest src => Sys2Proof.Machine.execDiv dest src s
  | .divh dest src => Sys2Proof.Machine.execDivh dest src s
  | .divb dest src => Sys2Proof.Machine.execDivb dest src s
  | .divu dest src => Sys2Proof.Machine.execDivu dest src s
  | .divuh dest src => Sys2Proof.Machine.execDivuh dest src s
  | .divub dest src => Sys2Proof.Machine.execDivub dest src s
  | .rem dest src => Sys2Proof.Machine.execRem dest src s
  | .remh dest src => Sys2Proof.Machine.execRemh dest src s
  | .remb dest src => Sys2Proof.Machine.execRemb dest src s
  | .remu dest src => Sys2Proof.Machine.execRemu dest src s
  | .remuh dest src => Sys2Proof.Machine.execRemuh dest src s
  | .remub dest src => Sys2Proof.Machine.execRemub dest src s
  | .srl3 dest src imm16 => Sys2Proof.Machine.execSrl3 dest src imm16 s
  | .sra3 dest src imm16 => Sys2Proof.Machine.execSra3 dest src imm16 s
  | .sll3 dest src imm16 => Sys2Proof.Machine.execSll3 dest src imm16 s
  | .ldi16 dest imm16 => Sys2Proof.Machine.execLdi16 dest imm16 s
  | .stbDisp src1 src2 disp16 => Sys2Proof.Machine.execStbDisp src1 src2 disp16 s
  | .sthDisp src1 src2 disp16 => Sys2Proof.Machine.execSthDisp src1 src2 disp16 s
  | .stDisp src1 src2 disp16 => Sys2Proof.Machine.execStDisp src1 src2 disp16 s
  | .bset bitpos src disp16 => Sys2Proof.Machine.execBset bitpos src disp16 s
  | .bclr bitpos src disp16 => Sys2Proof.Machine.execBclr bitpos src disp16 s
  | .ldbDisp dest src disp16 => Sys2Proof.Machine.execLdbDisp dest src disp16 s
  | .ldubDisp dest src disp16 => Sys2Proof.Machine.execLdubDisp dest src disp16 s
  | .ldhDisp dest src disp16 => Sys2Proof.Machine.execLdhDisp dest src disp16 s
  | .lduhDisp dest src disp16 => Sys2Proof.Machine.execLduhDisp dest src disp16 s
  | .ldDisp dest src disp16 => Sys2Proof.Machine.execLdDisp dest src disp16 s
  | .beq src1 src2 pcdisp16 => Sys2Proof.Machine.execBeq src1 src2 pcdisp16 s
  | .bne src1 src2 pcdisp16 => Sys2Proof.Machine.execBne src1 src2 pcdisp16 s
  | .beqz src pcdisp16 => Sys2Proof.Machine.execBeqz src pcdisp16 s
  | .bnez src pcdisp16 => Sys2Proof.Machine.execBnez src pcdisp16 s
  | .bltz src pcdisp16 => Sys2Proof.Machine.execBltz src pcdisp16 s
  | .bgez src pcdisp16 => Sys2Proof.Machine.execBgez src pcdisp16 s
  | .blez src pcdisp16 => Sys2Proof.Machine.execBlez src pcdisp16 s
  | .bgtz src pcdisp16 => Sys2Proof.Machine.execBgtz src pcdisp16 s
  | .mvfcp dest cpr inst cpid => Sys2Proof.Machine.execMvfcp dest cpr inst cpid s
  | .mvtcp src cpr inst cpid => Sys2Proof.Machine.execMvtcp src cpr inst cpid s
  | .opecp cpdest cpsrc inst cpid => Sys2Proof.Machine.execOpecp cpdest cpsrc inst cpid s
  | .seth dest imm16 => Sys2Proof.Machine.execSeth dest imm16 s
  | .ld24 dest imm24 => Sys2Proof.Machine.execLd24 dest imm24 s
  | .bcl24 pcdisp24 => Sys2Proof.Machine.execBcl24 pcdisp24 s
  | .bncl24 pcdisp24 => Sys2Proof.Machine.execBncl24 pcdisp24 s
  | .bc24 pcdisp24 => Sys2Proof.Machine.execBc24 pcdisp24 s
  | .bnc24 pcdisp24 => Sys2Proof.Machine.execBnc24 pcdisp24 s
  | .bl24 pcdisp24 => Sys2Proof.Machine.execBl24 pcdisp24 s
  | .bra24 pcdisp24 => Sys2Proof.Machine.execBra24 pcdisp24 s

end Sys2Proof.Machine
end

