-- ==== Sys2Proof/Machine/Parallel.lean ====
section
/-! DEFINITION. Parallel: what each instruction can raise and write (49_sequencing_parallel.md R468, R469, R476), and
the parallel pair (R464-R478). -/

namespace Sys2Proof.Machine

/-- The exception an instruction raises instead of executing, if any: PIE for the four privileged instructions in user
mode (R502), AE for a misaligned access (R503), CDE for a coprocessor that is not enabled (R506). TRAP is not here: it
executes (R505). -/
def raises (i : Instr) (s : State) : Option Event :=
  match i with
  | .rte | .mvtc .. | .setpsw .. | .clrpsw .. => if s.pm then some .pie else none
  | .ld _ src | .ldInc _ src | .lock _ src => if aligned (s.eaReg src) 4 then none else some .ae
  | .ldh _ src | .lduh _ src => if aligned (s.eaReg src) 2 then none else some .ae
  | .st _ src2 | .unlock _ src2 => if aligned (s.eaReg src2) 4 then none else some .ae
  | .sth _ src2 | .sthInc _ src2 => if aligned (s.eaReg src2) 2 then none else some .ae
  | .stPreInc _ src2 => if aligned (s.eaPreInc src2) 4 then none else some .ae
  | .stPreDec _ src2 => if aligned (s.eaPreDec src2) 4 then none else some .ae
  | .ldDisp _ src disp16 => if aligned (s.eaDisp src disp16) 4 then none else some .ae
  | .ldhDisp _ src disp16 | .lduhDisp _ src disp16 => if aligned (s.eaDisp src disp16) 2 then none else some .ae
  | .stDisp _ src2 disp16 => if aligned (s.eaDisp src2 disp16) 4 then none else some .ae
  | .sthDisp _ src2 disp16 => if aligned (s.eaDisp src2 disp16) 2 then none else some .ae
  | .mvfcp _ _ _ cpid | .mvtcp _ _ _ cpid | .opecp _ _ _ cpid => if s.copOn cpid then none else some .cde
  | .subv .. | .subx .. | .sub .. | .neg .. | .cmp .. | .cmpu .. | .cmpeq .. | .cmpz ..
  | .addv .. | .addx .. | .add .. | .not .. | .and .. | .xor .. | .or .. | .btst ..
  | .pcmpbz .. | .srl .. | .sra .. | .sll .. | .mul .. | .mv .. | .mvfc .. | .trap ..
  | .jc .. | .jnc .. | .jl .. | .jmp .. | .stb .. | .stbInc .. | .ldb .. | .ldub ..
  | .mulhi .. | .mullo .. | .mulwhi .. | .mulwlo .. | .machi .. | .maclo .. | .macwhi .. | .macwlo ..
  | .addi .. | .srli .. | .srai .. | .slli .. | .mvtachi .. | .mvtaclo .. | .rach .. | .rac ..
  | .mulwu1 .. | .macwu1 .. | .maclh1 .. | .msblo .. | .sadd | .mvfachi .. | .mvfaclo .. | .mvfacmi ..
  | .ldi8 .. | .nop | .sc | .snc | .bcl8 .. | .bncl8 .. | .bc8 .. | .bnc8 ..
  | .bl8 .. | .bra8 .. | .cmpi .. | .cmpui .. | .sath .. | .satb .. | .addv3 .. | .add3 ..
  | .and3 .. | .xor3 .. | .or3 .. | .div .. | .divh .. | .divb .. | .divu .. | .divuh ..
  | .divub .. | .rem .. | .remh .. | .remb .. | .remu .. | .remuh .. | .remub .. | .srl3 ..
  | .sra3 .. | .sll3 .. | .ldi16 .. | .stbDisp .. | .bset .. | .bclr .. | .ldbDisp .. | .ldubDisp ..
  | .beq .. | .bne .. | .beqz .. | .bnez .. | .bltz .. | .bgez .. | .blez .. | .bgtz ..
  | .seth .. | .ld24 .. | .bcl24 .. | .bncl24 .. | .bc24 .. | .bnc24 .. | .bl24 .. | .bra24 .. => none

/-- The register cells an instruction writes in state `s` when it executes: its destination, an updated base register,
R14 for a link branch that is taken, and SPI or SPU through MVTC (R468). -/
def regWrites (i : Instr) (s : State) : List Cell :=
  match i with
  | .subv dest .. | .subx dest .. | .sub dest .. | .neg dest .. | .addv dest ..
  | .addx dest .. | .add dest .. | .not dest .. | .and dest .. | .xor dest ..
  | .or dest .. | .srl dest .. | .sra dest .. | .sll dest .. | .mul dest ..
  | .mv dest .. | .mvfc dest .. | .ldb dest .. | .ldub dest .. | .ldh dest ..
  | .lduh dest .. | .ld dest .. | .lock dest .. | .addi dest .. | .srli dest ..
  | .srai dest .. | .slli dest .. | .mvfachi dest .. | .mvfaclo dest .. | .mvfacmi dest ..
  | .ldi8 dest .. | .sath dest .. | .satb dest .. | .addv3 dest .. | .add3 dest ..
  | .and3 dest .. | .xor3 dest .. | .or3 dest .. | .div dest .. | .divh dest ..
  | .divb dest .. | .divu dest .. | .divuh dest .. | .divub dest .. | .rem dest ..
  | .remh dest .. | .remb dest .. | .remu dest .. | .remuh dest .. | .remub dest ..
  | .srl3 dest .. | .sra3 dest .. | .sll3 dest .. | .ldi16 dest .. | .ldbDisp dest ..
  | .ldubDisp dest .. | .ldhDisp dest .. | .lduhDisp dest .. | .ldDisp dest .. | .mvfcp dest ..
  | .seth dest .. | .ld24 dest .. => [s.cellOf dest]
  | .ldInc dest src => [s.cellOf dest, s.cellOf src]
  | .stPreInc _ src2 | .stPreDec _ src2 | .stbInc _ src2 | .sthInc _ src2 => [s.cellOf src2]
  | .bcl8 .. | .bcl24 .. => if s.c then [s.cellOf linkReg] else []
  | .bncl8 .. | .bncl24 .. => if s.c then [] else [s.cellOf linkReg]
  | .bl8 .. | .bl24 .. | .jl .. => [s.cellOf linkReg]
  | .mvtc _ cr => if cr = 2 then [.spi] else if cr = 3 then [.spu] else []
  | .cmp .. | .cmpu .. | .cmpeq .. | .cmpz .. | .btst .. | .pcmpbz .. | .rte | .trap ..
  | .jc .. | .jnc .. | .jmp .. | .stb .. | .sth .. | .st .. | .unlock .. | .mulhi ..
  | .mullo .. | .mulwhi .. | .mulwlo .. | .machi .. | .maclo .. | .macwhi .. | .macwlo .. | .mvtachi ..
  | .mvtaclo .. | .rach .. | .rac .. | .mulwu1 .. | .macwu1 .. | .maclh1 .. | .msblo .. | .sadd
  | .nop | .setpsw .. | .clrpsw .. | .sc | .snc | .bc8 .. | .bnc8 .. | .bra8 ..
  | .cmpi .. | .cmpui .. | .stbDisp .. | .sthDisp .. | .stDisp .. | .bset .. | .bclr .. | .beq ..
  | .bne .. | .beqz .. | .bnez .. | .bltz .. | .bgez .. | .blez .. | .bgtz .. | .mvtcp ..
  | .opecp .. | .bc24 .. | .bnc24 .. | .bra24 .. => []

/-- The instruction counts as a writer of C: whatever its operands, but for MVTC, which is one only with PSW (R469,
D26). -/
def writesC : Instr → Bool
  | .addv .. | .addx .. | .subv .. | .subx .. | .cmp .. | .cmpeq .. | .cmpu .. | .cmpz ..
  | .pcmpbz .. | .btst .. | .addv3 .. | .cmpi .. | .cmpui .. | .setpsw .. | .clrpsw .. | .trap ..
  | .rte => true
  | .mvtc _ cr => cr == 0
  | .sub .. | .neg .. | .add .. | .not .. | .and .. | .xor .. | .or .. | .srl ..
  | .sra .. | .sll .. | .mul .. | .mv .. | .mvfc .. | .jc .. | .jnc .. | .jl ..
  | .jmp .. | .stb .. | .stbInc .. | .sth .. | .sthInc .. | .st .. | .unlock .. | .stPreInc ..
  | .stPreDec .. | .ldb .. | .ldub .. | .ldh .. | .lduh .. | .ld .. | .lock .. | .ldInc ..
  | .mulhi .. | .mullo .. | .mulwhi .. | .mulwlo .. | .machi .. | .maclo .. | .macwhi .. | .macwlo ..
  | .addi .. | .srli .. | .srai .. | .slli .. | .mvtachi .. | .mvtaclo .. | .rach .. | .rac ..
  | .mulwu1 .. | .macwu1 .. | .maclh1 .. | .msblo .. | .sadd | .mvfachi .. | .mvfaclo .. | .mvfacmi ..
  | .ldi8 .. | .nop | .sc | .snc | .bcl8 .. | .bncl8 .. | .bc8 .. | .bnc8 ..
  | .bl8 .. | .bra8 .. | .sath .. | .satb .. | .add3 .. | .and3 .. | .xor3 .. | .or3 ..
  | .div .. | .divh .. | .divb .. | .divu .. | .divuh .. | .divub .. | .rem .. | .remh ..
  | .remb .. | .remu .. | .remuh .. | .remub .. | .srl3 .. | .sra3 .. | .sll3 .. | .ldi16 ..
  | .stbDisp .. | .sthDisp .. | .stDisp .. | .bset .. | .bclr .. | .ldbDisp .. | .ldubDisp .. | .ldhDisp ..
  | .lduhDisp .. | .ldDisp .. | .beq .. | .bne .. | .beqz .. | .bnez .. | .bltz .. | .bgez ..
  | .blez .. | .bgtz .. | .mvfcp .. | .mvtcp .. | .opecp .. | .seth .. | .ld24 .. | .bcl24 ..
  | .bncl24 .. | .bc24 .. | .bnc24 .. | .bl24 .. | .bra24 .. => false

/-- The accumulators an instruction writes (R52, 46_dsp.md). -/
def accWrites : Instr → List Acc
  | .mulhi _ _ acc | .mullo _ _ acc | .machi _ _ acc | .maclo _ _ acc | .mvtachi _ acc
  | .mvtaclo _ acc => [acc]
  | .rac adest .. | .rach adest .. => [adest]
  | .mulwhi .. | .mulwlo .. | .macwhi .. | .macwlo .. | .msblo .. | .sadd => [.a0]
  | .mulwu1 .. | .macwu1 .. | .maclh1 .. => [.a1]
  | .mul .. => [.a0, .a1]
  | .subv .. | .subx .. | .sub .. | .neg .. | .cmp .. | .cmpu .. | .cmpeq .. | .cmpz ..
  | .addv .. | .addx .. | .add .. | .not .. | .and .. | .xor .. | .or .. | .btst ..
  | .pcmpbz .. | .srl .. | .sra .. | .sll .. | .mv .. | .mvfc .. | .mvtc .. | .rte
  | .trap .. | .jc .. | .jnc .. | .jl .. | .jmp .. | .stb .. | .stbInc .. | .sth ..
  | .sthInc .. | .st .. | .unlock .. | .stPreInc .. | .stPreDec .. | .ldb .. | .ldub .. | .ldh ..
  | .lduh .. | .ld .. | .lock .. | .ldInc .. | .addi .. | .srli .. | .srai .. | .slli ..
  | .mvfachi .. | .mvfaclo .. | .mvfacmi .. | .ldi8 .. | .nop | .setpsw .. | .clrpsw .. | .sc
  | .snc | .bcl8 .. | .bncl8 .. | .bc8 .. | .bnc8 .. | .bl8 .. | .bra8 .. | .cmpi ..
  | .cmpui .. | .sath .. | .satb .. | .addv3 .. | .add3 .. | .and3 .. | .xor3 .. | .or3 ..
  | .div .. | .divh .. | .divb .. | .divu .. | .divuh .. | .divub .. | .rem .. | .remh ..
  | .remb .. | .remu .. | .remuh .. | .remub .. | .srl3 .. | .sra3 .. | .sll3 .. | .ldi16 ..
  | .stbDisp .. | .sthDisp .. | .stDisp .. | .bset .. | .bclr .. | .ldbDisp .. | .ldubDisp .. | .ldhDisp ..
  | .lduhDisp .. | .ldDisp .. | .beq .. | .bne .. | .beqz .. | .bnez .. | .bltz .. | .bgez ..
  | .blez .. | .bgtz .. | .mvfcp .. | .mvtcp .. | .opecp .. | .seth .. | .ld24 .. | .bcl24 ..
  | .bncl24 .. | .bc24 .. | .bnc24 .. | .bl24 .. | .bra24 .. => []

/-- The O-side instruction counts as one that changes PSW.SM: MVTC to PSW, SETPSW or CLRPSW with bit 0x80, RTE
(R468). -/
def changesSm : Instr → Bool
  | .rte => true
  | .mvtc _ cr => cr == 0
  | .setpsw imm8 | .clrpsw imm8 => imm8.getLsbD 7
  | .subv .. | .subx .. | .sub .. | .neg .. | .cmp .. | .cmpu .. | .cmpeq .. | .cmpz ..
  | .addv .. | .addx .. | .add .. | .not .. | .and .. | .xor .. | .or .. | .btst ..
  | .pcmpbz .. | .srl .. | .sra .. | .sll .. | .mul .. | .mv .. | .mvfc .. | .trap ..
  | .jc .. | .jnc .. | .jl .. | .jmp .. | .stb .. | .stbInc .. | .sth .. | .sthInc ..
  | .st .. | .unlock .. | .stPreInc .. | .stPreDec .. | .ldb .. | .ldub .. | .ldh .. | .lduh ..
  | .ld .. | .lock .. | .ldInc .. | .mulhi .. | .mullo .. | .mulwhi .. | .mulwlo .. | .machi ..
  | .maclo .. | .macwhi .. | .macwlo .. | .addi .. | .srli .. | .srai .. | .slli .. | .mvtachi ..
  | .mvtaclo .. | .rach .. | .rac .. | .mulwu1 .. | .macwu1 .. | .maclh1 .. | .msblo .. | .sadd
  | .mvfachi .. | .mvfaclo .. | .mvfacmi .. | .ldi8 .. | .nop | .sc | .snc | .bcl8 ..
  | .bncl8 .. | .bc8 .. | .bnc8 .. | .bl8 .. | .bra8 .. | .cmpi .. | .cmpui .. | .sath ..
  | .satb .. | .addv3 .. | .add3 .. | .and3 .. | .xor3 .. | .or3 .. | .div .. | .divh ..
  | .divb .. | .divu .. | .divuh .. | .divub .. | .rem .. | .remh .. | .remb .. | .remu ..
  | .remuh .. | .remub .. | .srl3 .. | .sra3 .. | .sll3 .. | .ldi16 .. | .stbDisp .. | .sthDisp ..
  | .stDisp .. | .bset .. | .bclr .. | .ldbDisp .. | .ldubDisp .. | .ldhDisp .. | .lduhDisp .. | .ldDisp ..
  | .beq .. | .bne .. | .beqz .. | .bnez .. | .bltz .. | .bgez .. | .blez .. | .bgtz ..
  | .mvfcp .. | .mvtcp .. | .opecp .. | .seth .. | .ld24 .. | .bcl24 .. | .bncl24 .. | .bc24 ..
  | .bnc24 .. | .bl24 .. | .bra24 .. => false

/-- The cells in which an S-side write collides with the O-side instruction: those it writes, and the stack pointer R15
names before the pair when it changes PSW.SM (R468, D26). -/
def claims (o : Instr) (s : State) : List Cell :=
  regWrites o s ++ (if changesSm o then [s.cellOf 15] else [])

/-- SC cancels its partner when C = 1, SNC when C = 0 (R471). -/
def cancels (o : Instr) (s : State) : Bool := (o == .sc && s.c) || (o == .snc && !s.c)

/-- The placements of R466: the lower instruction is OS or -S; an upper -S goes with NOP only. -/
def pairAllowed (o sd : Instr) : Bool :=
  match o.pipe, sd.pipe with
  | .left, .both | .left, .right | .both, .both | .both, .right => true
  | .right, _ => sd == .nop
  | .left, .left | .left, .wide | .both, .left | .both, .wide | .wide, _ => false

/-- Carry one register written by S over to the pair's result; a collision leaves a free value (R468, U14). -/
def mergeReg (claimed : List Cell) (sS t : State) (k : Cell) : State :=
  if k ∈ claimed then (t.setCell k t.freeWord).useFree 1 else t.setCell k (sS.cell k)

/-- Carry C written by S over; a collision leaves a free bit (R469, U14). -/
def mergeC (collides : Bool) (sS t : State) : State :=
  if collides then (t.setC t.freeBit).useFree 1 else t.setC sS.c

/-- Carry one accumulator written by S over. -/
def mergeAcc (sS t : State) (a : Acc) : State := t.setAcc a (sS.acc a)

/-- The state after a pair, where `sO` and `sS` are the states after O and after S, each executed alone on the state `s`
before the pair (R464): O's result, and over it the registers, C and the accumulators that S writes. An S-side
instruction writes nothing else. -/
def merge (o sd : Instr) (s sO sS : State) : State :=
  let t0 := { sO with freeCount := max sO.freeCount sS.freeCount }
  let t1 := (regWrites sd s).foldl (mergeReg (claims o s) sS) t0
  let t2 := if writesC sd then mergeC (writesC o) sS t1 else t1
  (accWrites sd).foldl (mergeAcc sS) t2

/-- The parallel pair `o || sd` (R464, R471, R476). A placement outside R466 is refused (R475, U15, log 29). When O
raises an exception neither executes. -/
def execPair (o sd : Instr) (s : State) : Result :=
  if pairAllowed o sd then
    match raises o s with
    | some e => s.raise e
    | none =>
      match exec o s with
      | .next sO =>
        if cancels o s then .next sO
        else
          match exec sd s with
          | .next sS => .next (merge o sd s sO sS)
          | .fault r => .fault r
          | .refused r => .refused r
      | .fault r => .fault r
      | .refused r => .refused r
  else .refused .pairPlacement

end Sys2Proof.Machine
end

