-- ==== Sys2Proof/Machine/Fetch.lean ====
section
/-! DEFINITION. Fetch: which halfwords are executed at a PC (49_sequencing_parallel.md R460, R461, R474). The word is
read from memory when its instruction executes (R100, D9, log 16). -/

namespace Sys2Proof.Machine

/-- The aligned word that holds the instruction at PC (R460). -/
def State.fetchWord (s : State) : Word := s.readWord (wordBase s.pc)

/-- The upper halfword A (R460). -/
def upperHalf (w : Word) : Half := w.extractLsb' 16 16

/-- The lower halfword B (R460). -/
def lowerHalf (w : Word) : Half := w.extractLsb' 0 16

/-- W[31] = 1: a 32-bit instruction (R121). -/
def isWide (w : Word) : Bool := w.getLsbD 31

/-- W[15] = 1: where the word is not a 32-bit instruction, a parallel pair (R121). -/
def isParallel (w : Word) : Bool := w.getLsbD 15

/-- Execute one 16-bit instruction; an unassigned halfword raises RIE (R145, R504). -/
def runHalf (h : Half) (s : State) : Result :=
  match decode16 h with
  | .ok i => exec i s
  | .error _ => s.raise .rie

/-- Execute one 32-bit instruction; an unassigned word raises RIE (R145, R504). -/
def runWide (w : Word) (s : State) : Result :=
  match decode32 w with
  | .ok i => exec i s
  | .error _ => s.raise .rie

/-- Execute a parallel pair; an unassigned halfword on either side raises RIE before anything else (R476). -/
def runPair (a b : Half) (s : State) : Result :=
  match decode16 a, decode16 b with
  | .ok o, .ok sd => execPair o sd s
  | .ok _, .error _ => s.raise .rie
  | .error _, .ok _ => s.raise .rie
  | .error _, .error _ => s.raise .rie

/-- At a word boundary: a 32-bit instruction, the upper half of a sequential word, or a pair (R461). -/
def runAtWord (w : Word) (s : State) : Result :=
  if isWide w then runWide w s
  else if isParallel w then runPair (upperHalf w) (lowerHalf w) s
  else runHalf (upperHalf w) s

/-- At a halfword boundary: the lower half of a sequential word. The two other cases are not defined by the source
(R474, U16, log 30). -/
def runAtHalf (w : Word) (s : State) : Result :=
  if isWide w then .refused .insideWideInstruction
  else if isParallel w then .refused .insideParallelPair
  else runHalf (lowerHalf w) s

/-- Steps 1 to 3 of R461: execute what stands at PC. An odd PC does not exist (R25, log 33). -/
def State.execute (s : State) : Result :=
  if s.pc.getLsbD 0 then .fault .oddPc
  else if s.pc.getLsbD 1 then runAtHalf s.fetchWord s
  else runAtWord s.fetchWord s

end Sys2Proof.Machine
end

