-- ==== Sys2Proof/Machine/Step.lean ====
section
/-! DEFINITION. Step: one step of the machine (49_sequencing_parallel.md R461), and the placement of one instruction
where the next step fetches it. -/

namespace Sys2Proof.Machine

/-- One step: an interrupt-class event accepted at the boundary, or else what stands at PC (R461, R515). -/
def step (s : State) : Host.Outcome State Fault Refusal :=
  match s.boundary with
  | some t => .next t
  | none => s.execute

/-- The three request lines are not asserted. -/
def State.quiet (s : State) : State := { s with resetReq := false, intReq := false, copIntReq := false }

/-- PC at the word boundary at or below it. -/
def State.atWord (s : State) : State := s.goto (wordBase s.pc)

/-- PC even. -/
def State.atHalf (s : State) : State := s.goto (s.pc &&& 0xFFFFFFFE)

/-- The word at PC becomes `w`. -/
def State.placeWord (s : State) (w : Word) : State := s.writeWord s.pc w

/-- The halfword at PC becomes a sequential 16-bit instruction: its bit 15 is 0 and so is bit 15 of the other half of its
word. At a word boundary the lower half becomes 0x0000. -/
def State.placeHalf (s : State) (h : Half) : State :=
  if isWordBoundary s.pc then s.writeWord s.pc ((h &&& 0x7FFF) ++ 0#16)
  else (s.writeHalf s.pc (h &&& 0x7FFF)).writeByte (s.pc - 2) (s.readByte (s.pc - 2) &&& 0x7F)

/-- The instruction with bits `w` where the next step fetches it, with nothing requested (log 34). -/
def State.withFetchWord (s : State) (nbits w : Nat) : State :=
  if nbits = 32 then s.quiet.atWord.placeWord (BitVec.ofNat 32 w)
  else s.quiet.atHalf.placeHalf (BitVec.ofNat 16 w)

end Sys2Proof.Machine
end

