-- ==== Sys2Proof/Laws/Encoding.lean ====
section
/-! SUPPORT. Laws/Encoding: the fields the decoder reads are the fields the encoder wrote. -/

namespace Sys2Proof

@[simp] theorem regOf_regBits (r : Fin 16) : regOf (regBits r) = r := by revert r; decide

@[simp] theorem regBits_regOf (b : BitVec 4) : regBits (regOf b) = b := by revert b; decide

@[simp] theorem accOf_accBits (a : Acc) : accOf (accBits a) = some a := by cases a <;> rfl

theorem accBits_of_accOf {b : BitVec 2} {a : Acc} (h : accOf b = some a) : accBits a = b := by
  revert b a; decide

@[simp] theorem bitposBits_bit3 (b : Fin 8) : (bitposBits b).getLsbD 3 = false := by revert b; decide

@[simp] theorem bitposBits_number (b : Fin 8) : ((bitposBits b).extractLsb' 0 3).toFin = b := by revert b; decide

theorem bitposBits_of_field {d : BitVec 4} (h : d.getLsbD 3 = false) :
    bitposBits (d.extractLsb' 0 3).toFin = d := by revert d; decide

/-- The low field of two joined fields. -/
theorem field_low {n m : Nat} (x : BitVec n) (y : BitVec m) : (x ++ y).extractLsb' 0 m = y := by
  apply BitVec.eq_of_getLsbD_eq
  intro i hi
  rw [BitVec.getLsbD_extractLsb', BitVec.getLsbD_append]
  simp [hi]

/-- A field above the low one. -/
theorem field_high {n m : Nat} (x : BitVec n) (y : BitVec m) (k l : Nat) :
    (x ++ y).extractLsb' (m + k) l = x.extractLsb' k l := by
  apply BitVec.eq_of_getLsbD_eq
  intro i hi
  rw [BitVec.getLsbD_extractLsb', BitVec.getLsbD_extractLsb', BitVec.getLsbD_append]
  simp [show ¬ m + k + i < m by omega, show m + k + i - m = k + i by omega]

/-- The field that is the whole. -/
theorem field_all {n : Nat} (x : BitVec n) : x.extractLsb' 0 n = x := by
  apply BitVec.eq_of_getLsbD_eq
  intro i hi
  rw [BitVec.getLsbD_extractLsb']
  simp [hi]

/-- The nibbles of a halfword are those it was made of. -/
theorem nib_half (op d e f : BitVec 4) :
    nib (op ++ d ++ e ++ f : Half) 12 = op ∧ nib (op ++ d ++ e ++ f : Half) 8 = d ∧
      nib (op ++ d ++ e ++ f : Half) 4 = e ∧ nib (op ++ d ++ e ++ f : Half) 0 = f :=
  ⟨(field_high _ f 8 4).trans ((field_high _ e 4 4).trans ((field_high _ d 0 4).trans (field_all op))),
    (field_high _ f 4 4).trans ((field_high _ e 0 4).trans (field_low _ d)),
    (field_high _ f 0 4).trans (field_low _ e), field_low _ f⟩

/-- A value is made of its high and its low field. -/
theorem fields_join {n m : Nat} (c : BitVec (n + m)) : c.extractLsb' m n ++ c.extractLsb' 0 m = c := by
  apply BitVec.eq_of_getLsbD_eq
  intro i hi
  rw [BitVec.getLsbD_append, BitVec.getLsbD_extractLsb', BitVec.getLsbD_extractLsb']
  split
  · next h => simp [h]
  · next h => simp [show i - m < n by omega, show m + (i - m) = i by omega]

/-- A field of a field. -/
theorem field_field {n : Nat} (c : BitVec n) {lo k l m : Nat} (h : k + l ≤ m) :
    (c.extractLsb' lo m).extractLsb' k l = c.extractLsb' (lo + k) l := by
  apply BitVec.eq_of_getLsbD_eq
  intro i hi
  rw [BitVec.getLsbD_extractLsb', BitVec.getLsbD_extractLsb', BitVec.getLsbD_extractLsb']
  simp [hi, show k + i < m by omega, Nat.add_assoc]

/-- A byte is made of its nibbles. -/
theorem byte_nibs (c : BitVec 8) : nib c 4 ++ nib c 0 = c := fields_join (n := 4) (m := 4) c

/-- A halfword is made of its nibbles. -/
theorem half_nibs (h : Half) : nib h 12 ++ nib h 8 ++ nib h 4 ++ nib h 0 = h := by
  have h1 := fields_join (n := 12) (m := 4) h
  have h2 := fields_join (n := 8) (m := 4) (h.extractLsb' 4 12)
  have h3 := fields_join (n := 4) (m := 4) (h.extractLsb' 8 8)
  rw [field_field h (by omega), field_field h (by omega)] at h2 h3
  rw [← h3] at h2
  rw [← h2] at h1
  exact h1

/-- A 24-bit immediate is made of its two upper nibbles and its lower halfword. -/
theorem imm24_fields (c : BitVec 24) : nib c 20 ++ nib c 16 ++ c.extractLsb' 0 16 = c := by
  have h1 := fields_join (n := 8) (m := 16) c
  have h2 := fields_join (n := 4) (m := 4) (c.extractLsb' 16 8)
  rw [field_field c (by omega), field_field c (by omega)] at h2
  rw [← h2] at h1
  exact h1

/-- A word is made of its four upper nibbles and its lower halfword. -/
theorem word_fields (w : Word) :
    nib w 28 ++ nib w 24 ++ nib w 20 ++ nib w 16 ++ w.extractLsb' 0 16 = w := by
  have h1 := fields_join (n := 16) (m := 16) w
  have h2 := half_nibs (w.extractLsb' 16 16)
  simp only [nib] at h2 ⊢
  rw [field_field w (by omega), field_field w (by omega), field_field w (by omega), field_field w (by omega)] at h2
  rw [← h2] at h1
  exact h1

/-- The fields of a word are those it was made of. -/
theorem nib_word (op d e f : BitVec 4) (c : BitVec 16) :
    nib (op ++ d ++ e ++ f ++ c : Word) 28 = op ∧ nib (op ++ d ++ e ++ f ++ c : Word) 24 = d ∧
      nib (op ++ d ++ e ++ f ++ c : Word) 20 = e ∧ nib (op ++ d ++ e ++ f ++ c : Word) 16 = f ∧
      (op ++ d ++ e ++ f ++ c : Word).extractLsb' 0 16 = c :=
  ⟨(field_high _ c 12 4).trans (nib_half op d e f).1, (field_high _ c 8 4).trans (nib_half op d e f).2.1,
    (field_high _ c 4 4).trans (nib_half op d e f).2.2.1, (field_high _ c 0 4).trans (nib_half op d e f).2.2.2,
    field_low _ c⟩

/-! ### What the decoder answers on the encoder's shapes -/

/-- A halfword of four nibbles. -/
theorem decode_half4 (op d e f : BitVec 4) {i : Instr} (h : decodeNibbles op d e f = some i) :
    decode (half4 op d e f) = .ok i := by
  obtain ⟨h1, h2, h3, h4⟩ := nib_half op d e f
  simp only [decode, half4, decode16, h1, h2, h3, h4, h]

/-- A halfword with an 8-bit immediate. -/
theorem decode_halfImm8 (op d : BitVec 4) (c : BitVec 8) {i : Instr}
    (h : decodeNibbles op d (nib c 4) (nib c 0) = some i) : decode (halfImm8 op d c) = .ok i := by
  have e : halfImm8 op d c = half4 op d (nib c 4) (nib c 0) := by
    have hc := byte_nibs c
    simp only [halfImm8, half4, Code.half.injEq]
    conv_lhs => rw [← hc]
    exact (BitVec.append_assoc (x₁ := op ++ d) (x₂ := nib c 4) (x₃ := nib c 0)).symm
  rw [e]
  exact decode_half4 _ _ _ _ h

/-- A word of four nibbles and a halfword. -/
theorem decode_word4 (op d e f : BitVec 4) (c : BitVec 16) {i : Instr} (h : decodeFields op d e f c = some i) :
    decode (word4 op d e f c) = .ok i := by
  obtain ⟨h1, h2, h3, h4, h5⟩ := nib_word op d e f c
  simp only [decode, word4, decode32, h1, h2, h3, h4, h5, h]

/-- A word with a 24-bit immediate. -/
theorem decode_wordImm24 (op d : BitVec 4) (c : BitVec 24) {i : Instr}
    (h : decodeFields op d (nib c 20) (nib c 16) (c.extractLsb' 0 16) = some i) :
    decode (wordImm24 op d c) = .ok i := by
  have e : wordImm24 op d c = word4 op d (nib c 20) (nib c 16) (c.extractLsb' 0 16) := by
    have hc := imm24_fields c
    simp only [wordImm24, word4, Code.word.injEq]
    conv_lhs => rw [← hc]
    have a1 := BitVec.append_assoc (x₁ := op ++ d) (x₂ := nib c 20 ++ nib c 16) (x₃ := c.extractLsb' 0 16)
    have a2 := BitVec.append_assoc (x₁ := op ++ d) (x₂ := nib c 20) (x₃ := nib c 16)
    simp only [BitVec.cast_eq] at a1 a2
    rw [a2, a1]
  rw [e]
  exact decode_word4 _ _ _ _ _ h

/-! ### What a word decodes to -/

theorem decodeDiv_cases {c : BitVec 16} {word half byte i : Instr} (h : decodeDiv c word half byte = some i) :
    i = word ∨ i = half ∨ i = byte := by
  unfold decodeDiv at h
  split at h <;> simp_all

/-- A word decodes to a 32-bit instruction, or not at all. -/
theorem decode32_wide {w : Word} {i : Instr} (h : decode32 w = .ok i) : i.pipe = .wide := by
  unfold decode32 at h
  split at h
  · next j hj =>
    cases h
    unfold decodeFields at hj
    split at hj
    · unfold decodeOp8 at hj; repeat' (split at hj)
      all_goals first | (cases hj; rfl) | cases hj
    · unfold decodeOp9 at hj; split at hj
      all_goals first
        | (rcases decodeDiv_cases hj with rfl | rfl | rfl <;> rfl)
        | (cases hj; rfl)
        | (split at hj <;> cases hj <;> rfl)
        | cases hj
    · unfold decodeOpA at hj; repeat' (split at hj)
      all_goals first | (cases hj; rfl) | cases hj
    · unfold decodeOpB decodeBranchZero at hj; repeat' (split at hj)
      all_goals first | (cases hj; rfl) | cases hj
    · unfold decodeOpD at hj; repeat' (split at hj)
      all_goals first | (cases hj; rfl) | cases hj
    · cases hj; rfl
    · unfold decodeOpF at hj; repeat' (split at hj)
      all_goals first | (cases hj; rfl) | cases hj
    · cases hj
  · cases h

end Sys2Proof
end

