-- ==== Sys2Proof/Laws/PerInstr.lean ====
section
/-! SUPPORT. Laws/PerInstr: the family EncodingClass: the first bit of the encoding tells the length of the instruction
(30_encoding.md R121), and the pipe category (R148) agrees with it. -/

namespace Sys2Proof.Laws

theorem half4_msb (op d e f : BitVec 4) (h : op.getLsbD 3 = false) :
    (op ++ d ++ e ++ f : Half).getLsbD 15 = false := by
  simp only [BitVec.getLsbD_append]
  exact h

theorem halfImm8_msb (op d : BitVec 4) (c : BitVec 8) (h : op.getLsbD 3 = false) :
    (op ++ d ++ c : Half).getLsbD 15 = false := by
  simp only [BitVec.getLsbD_append]
  exact h

theorem word4_msb (op d e f : BitVec 4) (c : BitVec 16) (h : op.getLsbD 3 = true) :
    (op ++ d ++ e ++ f ++ c : Word).getLsbD 31 = true := by
  simp only [BitVec.getLsbD_append]
  exact h

theorem wordImm24_msb (op d : BitVec 4) (c : BitVec 24) (h : op.getLsbD 3 = true) :
    (op ++ d ++ c : Word).getLsbD 31 = true := by
  simp only [BitVec.getLsbD_append]
  exact h

/-- A 16-bit instruction is encoded with a first bit 0 and has a place in a pair; a 32-bit instruction is encoded with a
first bit 1 and has none. -/
def EncodingClass.Statement (i : Instr) : Prop :=
  match encode i with
  | .half h => h.getLsbD 15 = false ∧ i.pipe ≠ .wide
  | .word w => w.getLsbD 31 = true ∧ i.pipe = .wide

end Sys2Proof.Laws

namespace Sys2Proof

theorem Laws.EncodingClass.subv (dest src : Reg) : Laws.EncodingClass.Statement (.subv dest src) :=
  ⟨Laws.half4_msb _ _ _ _ rfl, Pipe.noConfusion⟩
theorem Laws.EncodingClass.subx (dest src : Reg) : Laws.EncodingClass.Statement (.subx dest src) :=
  ⟨Laws.half4_msb _ _ _ _ rfl, Pipe.noConfusion⟩
theorem Laws.EncodingClass.sub (dest src : Reg) : Laws.EncodingClass.Statement (.sub dest src) :=
  ⟨Laws.half4_msb _ _ _ _ rfl, Pipe.noConfusion⟩
theorem Laws.EncodingClass.neg (dest src : Reg) : Laws.EncodingClass.Statement (.neg dest src) :=
  ⟨Laws.half4_msb _ _ _ _ rfl, Pipe.noConfusion⟩
theorem Laws.EncodingClass.cmp (src1 src2 : Reg) : Laws.EncodingClass.Statement (.cmp src1 src2) :=
  ⟨Laws.half4_msb _ _ _ _ rfl, Pipe.noConfusion⟩
theorem Laws.EncodingClass.cmpu (src1 src2 : Reg) : Laws.EncodingClass.Statement (.cmpu src1 src2) :=
  ⟨Laws.half4_msb _ _ _ _ rfl, Pipe.noConfusion⟩
theorem Laws.EncodingClass.cmpeq (src1 src2 : Reg) : Laws.EncodingClass.Statement (.cmpeq src1 src2) :=
  ⟨Laws.half4_msb _ _ _ _ rfl, Pipe.noConfusion⟩
theorem Laws.EncodingClass.cmpz (src : Reg) : Laws.EncodingClass.Statement (.cmpz src) :=
  ⟨Laws.half4_msb _ _ _ _ rfl, Pipe.noConfusion⟩
theorem Laws.EncodingClass.addv (dest src : Reg) : Laws.EncodingClass.Statement (.addv dest src) :=
  ⟨Laws.half4_msb _ _ _ _ rfl, Pipe.noConfusion⟩
theorem Laws.EncodingClass.addx (dest src : Reg) : Laws.EncodingClass.Statement (.addx dest src) :=
  ⟨Laws.half4_msb _ _ _ _ rfl, Pipe.noConfusion⟩
theorem Laws.EncodingClass.add (dest src : Reg) : Laws.EncodingClass.Statement (.add dest src) :=
  ⟨Laws.half4_msb _ _ _ _ rfl, Pipe.noConfusion⟩
theorem Laws.EncodingClass.not (dest src : Reg) : Laws.EncodingClass.Statement (.not dest src) :=
  ⟨Laws.half4_msb _ _ _ _ rfl, Pipe.noConfusion⟩
theorem Laws.EncodingClass.and (dest src : Reg) : Laws.EncodingClass.Statement (.and dest src) :=
  ⟨Laws.half4_msb _ _ _ _ rfl, Pipe.noConfusion⟩
theorem Laws.EncodingClass.xor (dest src : Reg) : Laws.EncodingClass.Statement (.xor dest src) :=
  ⟨Laws.half4_msb _ _ _ _ rfl, Pipe.noConfusion⟩
theorem Laws.EncodingClass.or (dest src : Reg) : Laws.EncodingClass.Statement (.or dest src) :=
  ⟨Laws.half4_msb _ _ _ _ rfl, Pipe.noConfusion⟩
theorem Laws.EncodingClass.btst (bitpos : Fin 8) (src : Reg) : Laws.EncodingClass.Statement (.btst bitpos src) :=
  ⟨Laws.half4_msb _ _ _ _ rfl, Pipe.noConfusion⟩
theorem Laws.EncodingClass.pcmpbz (src : Reg) : Laws.EncodingClass.Statement (.pcmpbz src) :=
  ⟨Laws.half4_msb _ _ _ _ rfl, Pipe.noConfusion⟩
theorem Laws.EncodingClass.srl (dest src : Reg) : Laws.EncodingClass.Statement (.srl dest src) :=
  ⟨Laws.half4_msb _ _ _ _ rfl, Pipe.noConfusion⟩
theorem Laws.EncodingClass.sra (dest src : Reg) : Laws.EncodingClass.Statement (.sra dest src) :=
  ⟨Laws.half4_msb _ _ _ _ rfl, Pipe.noConfusion⟩
theorem Laws.EncodingClass.sll (dest src : Reg) : Laws.EncodingClass.Statement (.sll dest src) :=
  ⟨Laws.half4_msb _ _ _ _ rfl, Pipe.noConfusion⟩
theorem Laws.EncodingClass.mul (dest src : Reg) : Laws.EncodingClass.Statement (.mul dest src) :=
  ⟨Laws.half4_msb _ _ _ _ rfl, Pipe.noConfusion⟩
theorem Laws.EncodingClass.mv (dest src : Reg) : Laws.EncodingClass.Statement (.mv dest src) :=
  ⟨Laws.half4_msb _ _ _ _ rfl, Pipe.noConfusion⟩
theorem Laws.EncodingClass.mvfc (dest : Reg) (cr : CrNum) : Laws.EncodingClass.Statement (.mvfc dest cr) :=
  ⟨Laws.half4_msb _ _ _ _ rfl, Pipe.noConfusion⟩
theorem Laws.EncodingClass.mvtc (src : Reg) (cr : CrNum) : Laws.EncodingClass.Statement (.mvtc src cr) :=
  ⟨Laws.half4_msb _ _ _ _ rfl, Pipe.noConfusion⟩
theorem Laws.EncodingClass.rte : Laws.EncodingClass.Statement .rte :=
  ⟨Laws.half4_msb _ _ _ _ rfl, Pipe.noConfusion⟩
theorem Laws.EncodingClass.trap (imm4 : Fin 16) : Laws.EncodingClass.Statement (.trap imm4) :=
  ⟨Laws.half4_msb _ _ _ _ rfl, Pipe.noConfusion⟩
theorem Laws.EncodingClass.jc (src : Reg) : Laws.EncodingClass.Statement (.jc src) :=
  ⟨Laws.half4_msb _ _ _ _ rfl, Pipe.noConfusion⟩
theorem Laws.EncodingClass.jnc (src : Reg) : Laws.EncodingClass.Statement (.jnc src) :=
  ⟨Laws.half4_msb _ _ _ _ rfl, Pipe.noConfusion⟩
theorem Laws.EncodingClass.jl (src : Reg) : Laws.EncodingClass.Statement (.jl src) :=
  ⟨Laws.half4_msb _ _ _ _ rfl, Pipe.noConfusion⟩
theorem Laws.EncodingClass.jmp (src : Reg) : Laws.EncodingClass.Statement (.jmp src) :=
  ⟨Laws.half4_msb _ _ _ _ rfl, Pipe.noConfusion⟩
theorem Laws.EncodingClass.stb (src1 src2 : Reg) : Laws.EncodingClass.Statement (.stb src1 src2) :=
  ⟨Laws.half4_msb _ _ _ _ rfl, Pipe.noConfusion⟩
theorem Laws.EncodingClass.stbInc (src1 src2 : Reg) : Laws.EncodingClass.Statement (.stbInc src1 src2) :=
  ⟨Laws.half4_msb _ _ _ _ rfl, Pipe.noConfusion⟩
theorem Laws.EncodingClass.sth (src1 src2 : Reg) : Laws.EncodingClass.Statement (.sth src1 src2) :=
  ⟨Laws.half4_msb _ _ _ _ rfl, Pipe.noConfusion⟩
theorem Laws.EncodingClass.sthInc (src1 src2 : Reg) : Laws.EncodingClass.Statement (.sthInc src1 src2) :=
  ⟨Laws.half4_msb _ _ _ _ rfl, Pipe.noConfusion⟩
theorem Laws.EncodingClass.st (src1 src2 : Reg) : Laws.EncodingClass.Statement (.st src1 src2) :=
  ⟨Laws.half4_msb _ _ _ _ rfl, Pipe.noConfusion⟩
theorem Laws.EncodingClass.unlock (src1 src2 : Reg) : Laws.EncodingClass.Statement (.unlock src1 src2) :=
  ⟨Laws.half4_msb _ _ _ _ rfl, Pipe.noConfusion⟩
theorem Laws.EncodingClass.stPreInc (src1 src2 : Reg) : Laws.EncodingClass.Statement (.stPreInc src1 src2) :=
  ⟨Laws.half4_msb _ _ _ _ rfl, Pipe.noConfusion⟩
theorem Laws.EncodingClass.stPreDec (src1 src2 : Reg) : Laws.EncodingClass.Statement (.stPreDec src1 src2) :=
  ⟨Laws.half4_msb _ _ _ _ rfl, Pipe.noConfusion⟩
theorem Laws.EncodingClass.ldb (dest src : Reg) : Laws.EncodingClass.Statement (.ldb dest src) :=
  ⟨Laws.half4_msb _ _ _ _ rfl, Pipe.noConfusion⟩
theorem Laws.EncodingClass.ldub (dest src : Reg) : Laws.EncodingClass.Statement (.ldub dest src) :=
  ⟨Laws.half4_msb _ _ _ _ rfl, Pipe.noConfusion⟩
theorem Laws.EncodingClass.ldh (dest src : Reg) : Laws.EncodingClass.Statement (.ldh dest src) :=
  ⟨Laws.half4_msb _ _ _ _ rfl, Pipe.noConfusion⟩
theorem Laws.EncodingClass.lduh (dest src : Reg) : Laws.EncodingClass.Statement (.lduh dest src) :=
  ⟨Laws.half4_msb _ _ _ _ rfl, Pipe.noConfusion⟩
theorem Laws.EncodingClass.ld (dest src : Reg) : Laws.EncodingClass.Statement (.ld dest src) :=
  ⟨Laws.half4_msb _ _ _ _ rfl, Pipe.noConfusion⟩
theorem Laws.EncodingClass.lock (dest src : Reg) : Laws.EncodingClass.Statement (.lock dest src) :=
  ⟨Laws.half4_msb _ _ _ _ rfl, Pipe.noConfusion⟩
theorem Laws.EncodingClass.ldInc (dest src : Reg) : Laws.EncodingClass.Statement (.ldInc dest src) :=
  ⟨Laws.half4_msb _ _ _ _ rfl, Pipe.noConfusion⟩
theorem Laws.EncodingClass.mulhi (src1 src2 : Reg) (acc : Acc) : Laws.EncodingClass.Statement (.mulhi src1 src2 acc) :=
  ⟨Laws.half4_msb _ _ _ _ rfl, Pipe.noConfusion⟩
theorem Laws.EncodingClass.mullo (src1 src2 : Reg) (acc : Acc) : Laws.EncodingClass.Statement (.mullo src1 src2 acc) :=
  ⟨Laws.half4_msb _ _ _ _ rfl, Pipe.noConfusion⟩
theorem Laws.EncodingClass.mulwhi (src1 src2 : Reg) : Laws.EncodingClass.Statement (.mulwhi src1 src2) :=
  ⟨Laws.half4_msb _ _ _ _ rfl, Pipe.noConfusion⟩
theorem Laws.EncodingClass.mulwlo (src1 src2 : Reg) : Laws.EncodingClass.Statement (.mulwlo src1 src2) :=
  ⟨Laws.half4_msb _ _ _ _ rfl, Pipe.noConfusion⟩
theorem Laws.EncodingClass.machi (src1 src2 : Reg) (acc : Acc) : Laws.EncodingClass.Statement (.machi src1 src2 acc) :=
  ⟨Laws.half4_msb _ _ _ _ rfl, Pipe.noConfusion⟩
theorem Laws.EncodingClass.maclo (src1 src2 : Reg) (acc : Acc) : Laws.EncodingClass.Statement (.maclo src1 src2 acc) :=
  ⟨Laws.half4_msb _ _ _ _ rfl, Pipe.noConfusion⟩
theorem Laws.EncodingClass.macwhi (src1 src2 : Reg) : Laws.EncodingClass.Statement (.macwhi src1 src2) :=
  ⟨Laws.half4_msb _ _ _ _ rfl, Pipe.noConfusion⟩
theorem Laws.EncodingClass.macwlo (src1 src2 : Reg) : Laws.EncodingClass.Statement (.macwlo src1 src2) :=
  ⟨Laws.half4_msb _ _ _ _ rfl, Pipe.noConfusion⟩
theorem Laws.EncodingClass.addi (dest : Reg) (imm8 : BitVec 8) : Laws.EncodingClass.Statement (.addi dest imm8) :=
  ⟨Laws.halfImm8_msb _ _ _ rfl, Pipe.noConfusion⟩
theorem Laws.EncodingClass.srli (dest : Reg) (imm5 : BitVec 5) : Laws.EncodingClass.Statement (.srli dest imm5) :=
  ⟨Laws.half4_msb _ _ _ _ rfl, Pipe.noConfusion⟩
theorem Laws.EncodingClass.srai (dest : Reg) (imm5 : BitVec 5) : Laws.EncodingClass.Statement (.srai dest imm5) :=
  ⟨Laws.half4_msb _ _ _ _ rfl, Pipe.noConfusion⟩
theorem Laws.EncodingClass.slli (dest : Reg) (imm5 : BitVec 5) : Laws.EncodingClass.Statement (.slli dest imm5) :=
  ⟨Laws.half4_msb _ _ _ _ rfl, Pipe.noConfusion⟩
theorem Laws.EncodingClass.mvtachi (src : Reg) (acc : Acc) : Laws.EncodingClass.Statement (.mvtachi src acc) :=
  ⟨Laws.half4_msb _ _ _ _ rfl, Pipe.noConfusion⟩
theorem Laws.EncodingClass.mvtaclo (src : Reg) (acc : Acc) : Laws.EncodingClass.Statement (.mvtaclo src acc) :=
  ⟨Laws.half4_msb _ _ _ _ rfl, Pipe.noConfusion⟩
theorem Laws.EncodingClass.rach (adest asrc : Acc) (imm1 : Nat) : Laws.EncodingClass.Statement (.rach adest asrc imm1) :=
  ⟨Laws.half4_msb _ _ _ _ rfl, Pipe.noConfusion⟩
theorem Laws.EncodingClass.rac (adest asrc : Acc) (imm1 : Nat) : Laws.EncodingClass.Statement (.rac adest asrc imm1) :=
  ⟨Laws.half4_msb _ _ _ _ rfl, Pipe.noConfusion⟩
theorem Laws.EncodingClass.mulwu1 (src1 src2 : Reg) : Laws.EncodingClass.Statement (.mulwu1 src1 src2) :=
  ⟨Laws.half4_msb _ _ _ _ rfl, Pipe.noConfusion⟩
theorem Laws.EncodingClass.macwu1 (src1 src2 : Reg) : Laws.EncodingClass.Statement (.macwu1 src1 src2) :=
  ⟨Laws.half4_msb _ _ _ _ rfl, Pipe.noConfusion⟩
theorem Laws.EncodingClass.maclh1 (src1 src2 : Reg) : Laws.EncodingClass.Statement (.maclh1 src1 src2) :=
  ⟨Laws.half4_msb _ _ _ _ rfl, Pipe.noConfusion⟩
theorem Laws.EncodingClass.msblo (src1 src2 : Reg) : Laws.EncodingClass.Statement (.msblo src1 src2) :=
  ⟨Laws.half4_msb _ _ _ _ rfl, Pipe.noConfusion⟩
theorem Laws.EncodingClass.sadd : Laws.EncodingClass.Statement .sadd :=
  ⟨Laws.half4_msb _ _ _ _ rfl, Pipe.noConfusion⟩
theorem Laws.EncodingClass.mvfachi (dest : Reg) (acc : Acc) : Laws.EncodingClass.Statement (.mvfachi dest acc) :=
  ⟨Laws.half4_msb _ _ _ _ rfl, Pipe.noConfusion⟩
theorem Laws.EncodingClass.mvfaclo (dest : Reg) (acc : Acc) : Laws.EncodingClass.Statement (.mvfaclo dest acc) :=
  ⟨Laws.half4_msb _ _ _ _ rfl, Pipe.noConfusion⟩
theorem Laws.EncodingClass.mvfacmi (dest : Reg) (acc : Acc) : Laws.EncodingClass.Statement (.mvfacmi dest acc) :=
  ⟨Laws.half4_msb _ _ _ _ rfl, Pipe.noConfusion⟩
theorem Laws.EncodingClass.ldi8 (dest : Reg) (imm8 : BitVec 8) : Laws.EncodingClass.Statement (.ldi8 dest imm8) :=
  ⟨Laws.halfImm8_msb _ _ _ rfl, Pipe.noConfusion⟩
theorem Laws.EncodingClass.nop : Laws.EncodingClass.Statement .nop :=
  ⟨Laws.half4_msb _ _ _ _ rfl, Pipe.noConfusion⟩
theorem Laws.EncodingClass.setpsw (imm8 : BitVec 8) : Laws.EncodingClass.Statement (.setpsw imm8) :=
  ⟨Laws.halfImm8_msb _ _ _ rfl, Pipe.noConfusion⟩
theorem Laws.EncodingClass.clrpsw (imm8 : BitVec 8) : Laws.EncodingClass.Statement (.clrpsw imm8) :=
  ⟨Laws.halfImm8_msb _ _ _ rfl, Pipe.noConfusion⟩
theorem Laws.EncodingClass.sc : Laws.EncodingClass.Statement .sc :=
  ⟨Laws.half4_msb _ _ _ _ rfl, Pipe.noConfusion⟩
theorem Laws.EncodingClass.snc : Laws.EncodingClass.Statement .snc :=
  ⟨Laws.half4_msb _ _ _ _ rfl, Pipe.noConfusion⟩
theorem Laws.EncodingClass.bcl8 (pcdisp8 : BitVec 8) : Laws.EncodingClass.Statement (.bcl8 pcdisp8) :=
  ⟨Laws.halfImm8_msb _ _ _ rfl, Pipe.noConfusion⟩
theorem Laws.EncodingClass.bncl8 (pcdisp8 : BitVec 8) : Laws.EncodingClass.Statement (.bncl8 pcdisp8) :=
  ⟨Laws.halfImm8_msb _ _ _ rfl, Pipe.noConfusion⟩
theorem Laws.EncodingClass.bc8 (pcdisp8 : BitVec 8) : Laws.EncodingClass.Statement (.bc8 pcdisp8) :=
  ⟨Laws.halfImm8_msb _ _ _ rfl, Pipe.noConfusion⟩
theorem Laws.EncodingClass.bnc8 (pcdisp8 : BitVec 8) : Laws.EncodingClass.Statement (.bnc8 pcdisp8) :=
  ⟨Laws.halfImm8_msb _ _ _ rfl, Pipe.noConfusion⟩
theorem Laws.EncodingClass.bl8 (pcdisp8 : BitVec 8) : Laws.EncodingClass.Statement (.bl8 pcdisp8) :=
  ⟨Laws.halfImm8_msb _ _ _ rfl, Pipe.noConfusion⟩
theorem Laws.EncodingClass.bra8 (pcdisp8 : BitVec 8) : Laws.EncodingClass.Statement (.bra8 pcdisp8) :=
  ⟨Laws.halfImm8_msb _ _ _ rfl, Pipe.noConfusion⟩
theorem Laws.EncodingClass.cmpi (src : Reg) (imm16 : BitVec 16) : Laws.EncodingClass.Statement (.cmpi src imm16) :=
  ⟨Laws.word4_msb _ _ _ _ _ rfl, rfl⟩
theorem Laws.EncodingClass.cmpui (src : Reg) (imm16 : BitVec 16) : Laws.EncodingClass.Statement (.cmpui src imm16) :=
  ⟨Laws.word4_msb _ _ _ _ _ rfl, rfl⟩
theorem Laws.EncodingClass.sath (dest src : Reg) : Laws.EncodingClass.Statement (.sath dest src) :=
  ⟨Laws.word4_msb _ _ _ _ _ rfl, rfl⟩
theorem Laws.EncodingClass.satb (dest src : Reg) : Laws.EncodingClass.Statement (.satb dest src) :=
  ⟨Laws.word4_msb _ _ _ _ _ rfl, rfl⟩
theorem Laws.EncodingClass.addv3 (dest src : Reg) (imm16 : BitVec 16) : Laws.EncodingClass.Statement (.addv3 dest src imm16) :=
  ⟨Laws.word4_msb _ _ _ _ _ rfl, rfl⟩
theorem Laws.EncodingClass.add3 (dest src : Reg) (imm16 : BitVec 16) : Laws.EncodingClass.Statement (.add3 dest src imm16) :=
  ⟨Laws.word4_msb _ _ _ _ _ rfl, rfl⟩
theorem Laws.EncodingClass.and3 (dest src : Reg) (imm16 : BitVec 16) : Laws.EncodingClass.Statement (.and3 dest src imm16) :=
  ⟨Laws.word4_msb _ _ _ _ _ rfl, rfl⟩
theorem Laws.EncodingClass.xor3 (dest src : Reg) (imm16 : BitVec 16) : Laws.EncodingClass.Statement (.xor3 dest src imm16) :=
  ⟨Laws.word4_msb _ _ _ _ _ rfl, rfl⟩
theorem Laws.EncodingClass.or3 (dest src : Reg) (imm16 : BitVec 16) : Laws.EncodingClass.Statement (.or3 dest src imm16) :=
  ⟨Laws.word4_msb _ _ _ _ _ rfl, rfl⟩
theorem Laws.EncodingClass.div (dest src : Reg) : Laws.EncodingClass.Statement (.div dest src) :=
  ⟨Laws.word4_msb _ _ _ _ _ rfl, rfl⟩
theorem Laws.EncodingClass.divh (dest src : Reg) : Laws.EncodingClass.Statement (.divh dest src) :=
  ⟨Laws.word4_msb _ _ _ _ _ rfl, rfl⟩
theorem Laws.EncodingClass.divb (dest src : Reg) : Laws.EncodingClass.Statement (.divb dest src) :=
  ⟨Laws.word4_msb _ _ _ _ _ rfl, rfl⟩
theorem Laws.EncodingClass.divu (dest src : Reg) : Laws.EncodingClass.Statement (.divu dest src) :=
  ⟨Laws.word4_msb _ _ _ _ _ rfl, rfl⟩
theorem Laws.EncodingClass.divuh (dest src : Reg) : Laws.EncodingClass.Statement (.divuh dest src) :=
  ⟨Laws.word4_msb _ _ _ _ _ rfl, rfl⟩
theorem Laws.EncodingClass.divub (dest src : Reg) : Laws.EncodingClass.Statement (.divub dest src) :=
  ⟨Laws.word4_msb _ _ _ _ _ rfl, rfl⟩
theorem Laws.EncodingClass.rem (dest src : Reg) : Laws.EncodingClass.Statement (.rem dest src) :=
  ⟨Laws.word4_msb _ _ _ _ _ rfl, rfl⟩
theorem Laws.EncodingClass.remh (dest src : Reg) : Laws.EncodingClass.Statement (.remh dest src) :=
  ⟨Laws.word4_msb _ _ _ _ _ rfl, rfl⟩
theorem Laws.EncodingClass.remb (dest src : Reg) : Laws.EncodingClass.Statement (.remb dest src) :=
  ⟨Laws.word4_msb _ _ _ _ _ rfl, rfl⟩
theorem Laws.EncodingClass.remu (dest src : Reg) : Laws.EncodingClass.Statement (.remu dest src) :=
  ⟨Laws.word4_msb _ _ _ _ _ rfl, rfl⟩
theorem Laws.EncodingClass.remuh (dest src : Reg) : Laws.EncodingClass.Statement (.remuh dest src) :=
  ⟨Laws.word4_msb _ _ _ _ _ rfl, rfl⟩
theorem Laws.EncodingClass.remub (dest src : Reg) : Laws.EncodingClass.Statement (.remub dest src) :=
  ⟨Laws.word4_msb _ _ _ _ _ rfl, rfl⟩
theorem Laws.EncodingClass.srl3 (dest src : Reg) (imm16 : BitVec 16) : Laws.EncodingClass.Statement (.srl3 dest src imm16) :=
  ⟨Laws.word4_msb _ _ _ _ _ rfl, rfl⟩
theorem Laws.EncodingClass.sra3 (dest src : Reg) (imm16 : BitVec 16) : Laws.EncodingClass.Statement (.sra3 dest src imm16) :=
  ⟨Laws.word4_msb _ _ _ _ _ rfl, rfl⟩
theorem Laws.EncodingClass.sll3 (dest src : Reg) (imm16 : BitVec 16) : Laws.EncodingClass.Statement (.sll3 dest src imm16) :=
  ⟨Laws.word4_msb _ _ _ _ _ rfl, rfl⟩
theorem Laws.EncodingClass.ldi16 (dest : Reg) (imm16 : BitVec 16) : Laws.EncodingClass.Statement (.ldi16 dest imm16) :=
  ⟨Laws.word4_msb _ _ _ _ _ rfl, rfl⟩
theorem Laws.EncodingClass.stbDisp (src1 src2 : Reg) (disp16 : BitVec 16) : Laws.EncodingClass.Statement (.stbDisp src1 src2 disp16) :=
  ⟨Laws.word4_msb _ _ _ _ _ rfl, rfl⟩
theorem Laws.EncodingClass.sthDisp (src1 src2 : Reg) (disp16 : BitVec 16) : Laws.EncodingClass.Statement (.sthDisp src1 src2 disp16) :=
  ⟨Laws.word4_msb _ _ _ _ _ rfl, rfl⟩
theorem Laws.EncodingClass.stDisp (src1 src2 : Reg) (disp16 : BitVec 16) : Laws.EncodingClass.Statement (.stDisp src1 src2 disp16) :=
  ⟨Laws.word4_msb _ _ _ _ _ rfl, rfl⟩
theorem Laws.EncodingClass.bset (bitpos : Fin 8) (src : Reg) (disp16 : BitVec 16) : Laws.EncodingClass.Statement (.bset bitpos src disp16) :=
  ⟨Laws.word4_msb _ _ _ _ _ rfl, rfl⟩
theorem Laws.EncodingClass.bclr (bitpos : Fin 8) (src : Reg) (disp16 : BitVec 16) : Laws.EncodingClass.Statement (.bclr bitpos src disp16) :=
  ⟨Laws.word4_msb _ _ _ _ _ rfl, rfl⟩
theorem Laws.EncodingClass.ldbDisp (dest src : Reg) (disp16 : BitVec 16) : Laws.EncodingClass.Statement (.ldbDisp dest src disp16) :=
  ⟨Laws.word4_msb _ _ _ _ _ rfl, rfl⟩
theorem Laws.EncodingClass.ldubDisp (dest src : Reg) (disp16 : BitVec 16) : Laws.EncodingClass.Statement (.ldubDisp dest src disp16) :=
  ⟨Laws.word4_msb _ _ _ _ _ rfl, rfl⟩
theorem Laws.EncodingClass.ldhDisp (dest src : Reg) (disp16 : BitVec 16) : Laws.EncodingClass.Statement (.ldhDisp dest src disp16) :=
  ⟨Laws.word4_msb _ _ _ _ _ rfl, rfl⟩
theorem Laws.EncodingClass.lduhDisp (dest src : Reg) (disp16 : BitVec 16) : Laws.EncodingClass.Statement (.lduhDisp dest src disp16) :=
  ⟨Laws.word4_msb _ _ _ _ _ rfl, rfl⟩
theorem Laws.EncodingClass.ldDisp (dest src : Reg) (disp16 : BitVec 16) : Laws.EncodingClass.Statement (.ldDisp dest src disp16) :=
  ⟨Laws.word4_msb _ _ _ _ _ rfl, rfl⟩
theorem Laws.EncodingClass.beq (src1 src2 : Reg) (pcdisp16 : BitVec 16) : Laws.EncodingClass.Statement (.beq src1 src2 pcdisp16) :=
  ⟨Laws.word4_msb _ _ _ _ _ rfl, rfl⟩
theorem Laws.EncodingClass.bne (src1 src2 : Reg) (pcdisp16 : BitVec 16) : Laws.EncodingClass.Statement (.bne src1 src2 pcdisp16) :=
  ⟨Laws.word4_msb _ _ _ _ _ rfl, rfl⟩
theorem Laws.EncodingClass.beqz (src : Reg) (pcdisp16 : BitVec 16) : Laws.EncodingClass.Statement (.beqz src pcdisp16) :=
  ⟨Laws.word4_msb _ _ _ _ _ rfl, rfl⟩
theorem Laws.EncodingClass.bnez (src : Reg) (pcdisp16 : BitVec 16) : Laws.EncodingClass.Statement (.bnez src pcdisp16) :=
  ⟨Laws.word4_msb _ _ _ _ _ rfl, rfl⟩
theorem Laws.EncodingClass.bltz (src : Reg) (pcdisp16 : BitVec 16) : Laws.EncodingClass.Statement (.bltz src pcdisp16) :=
  ⟨Laws.word4_msb _ _ _ _ _ rfl, rfl⟩
theorem Laws.EncodingClass.bgez (src : Reg) (pcdisp16 : BitVec 16) : Laws.EncodingClass.Statement (.bgez src pcdisp16) :=
  ⟨Laws.word4_msb _ _ _ _ _ rfl, rfl⟩
theorem Laws.EncodingClass.blez (src : Reg) (pcdisp16 : BitVec 16) : Laws.EncodingClass.Statement (.blez src pcdisp16) :=
  ⟨Laws.word4_msb _ _ _ _ _ rfl, rfl⟩
theorem Laws.EncodingClass.bgtz (src : Reg) (pcdisp16 : BitVec 16) : Laws.EncodingClass.Statement (.bgtz src pcdisp16) :=
  ⟨Laws.word4_msb _ _ _ _ _ rfl, rfl⟩
theorem Laws.EncodingClass.mvfcp (dest : Reg) (cpr : CpReg) (inst : BitVec 8) (cpid : CpNum) : Laws.EncodingClass.Statement (.mvfcp dest cpr inst cpid) :=
  ⟨Laws.word4_msb _ _ _ _ _ rfl, rfl⟩
theorem Laws.EncodingClass.mvtcp (src : Reg) (cpr : CpReg) (inst : BitVec 8) (cpid : CpNum) : Laws.EncodingClass.Statement (.mvtcp src cpr inst cpid) :=
  ⟨Laws.word4_msb _ _ _ _ _ rfl, rfl⟩
theorem Laws.EncodingClass.opecp (cpdest cpsrc : CpReg) (inst : BitVec 8) (cpid : CpNum) : Laws.EncodingClass.Statement (.opecp cpdest cpsrc inst cpid) :=
  ⟨Laws.word4_msb _ _ _ _ _ rfl, rfl⟩
theorem Laws.EncodingClass.seth (dest : Reg) (imm16 : BitVec 16) : Laws.EncodingClass.Statement (.seth dest imm16) :=
  ⟨Laws.word4_msb _ _ _ _ _ rfl, rfl⟩
theorem Laws.EncodingClass.ld24 (dest : Reg) (imm24 : BitVec 24) : Laws.EncodingClass.Statement (.ld24 dest imm24) :=
  ⟨Laws.wordImm24_msb _ _ _ rfl, rfl⟩
theorem Laws.EncodingClass.bcl24 (pcdisp24 : BitVec 24) : Laws.EncodingClass.Statement (.bcl24 pcdisp24) :=
  ⟨Laws.wordImm24_msb _ _ _ rfl, rfl⟩
theorem Laws.EncodingClass.bncl24 (pcdisp24 : BitVec 24) : Laws.EncodingClass.Statement (.bncl24 pcdisp24) :=
  ⟨Laws.wordImm24_msb _ _ _ rfl, rfl⟩
theorem Laws.EncodingClass.bc24 (pcdisp24 : BitVec 24) : Laws.EncodingClass.Statement (.bc24 pcdisp24) :=
  ⟨Laws.wordImm24_msb _ _ _ rfl, rfl⟩
theorem Laws.EncodingClass.bnc24 (pcdisp24 : BitVec 24) : Laws.EncodingClass.Statement (.bnc24 pcdisp24) :=
  ⟨Laws.wordImm24_msb _ _ _ rfl, rfl⟩
theorem Laws.EncodingClass.bl24 (pcdisp24 : BitVec 24) : Laws.EncodingClass.Statement (.bl24 pcdisp24) :=
  ⟨Laws.wordImm24_msb _ _ _ rfl, rfl⟩
theorem Laws.EncodingClass.bra24 (pcdisp24 : BitVec 24) : Laws.EncodingClass.Statement (.bra24 pcdisp24) :=
  ⟨Laws.wordImm24_msb _ _ _ rfl, rfl⟩

end Sys2Proof
end

