-- ==== Sys2Proof/Safety.lean ====
section
/-! DEFINITION. Safety: the terms in which the claims about the machine are stated: the state invariant, what an
instruction may change (its frame), and what it means that an instruction completes. -/

namespace Sys2Proof.Machine

/-- The invariant of the machine: the bits the spec fixes to 0 are 0 in PSW (R33), EVB (R42, D15), BPC (R45) and PC
(R25), and memory is in its canonical form. -/
structure State.Inv (s : State) : Prop where
  psw : s.psw &&& ~~~pswMask = 0
  evb : s.evb &&& ~~~evbMask = 0
  bpc : s.bpc.getLsbD 0 = false
  pc : s.pc.getLsbD 0 = false
  mem : s.mem.wf

/-- What an instruction may change beside the PC: register cells, accumulators, bytes of memory, PSW bits, BPC, EVB
(with its hidden bit), the LOCK bit, the coprocessors, the mark of R571. -/
structure Writes where
  regs : List Cell := []
  accs : List Acc := []
  bytes : List Word := []
  psw : Word := 0
  bpc : Bool := false
  evb : Bool := false
  lock : Bool := false
  cop : Bool := false
  mark : Bool := false

/-- The frame: from `s` to `t` everything is unchanged but the PC and what `w` lists. (`freeCount`, which is no state of
the hardware, is free.) -/
structure KeepsBut (w : Writes) (s t : State) : Prop where
  cell : ∀ k, k ∉ w.regs → t.cell k = s.cell k
  acc : ∀ a, a ∉ w.accs → t.acc a = s.acc a
  byte : ∀ a, a ∉ w.bytes → t.readByte a = s.readByte a
  psw : t.psw &&& ~~~w.psw = s.psw &&& ~~~w.psw
  bpc : w.bpc = false → t.bpc = s.bpc
  evb : w.evb = false → t.evb = s.evb ∧ t.evbWritten = s.evbWritten
  lock : w.lock = false → t.lock = s.lock
  cop : w.cop = false → t.copLog = s.copLog
  mark : w.mark = false → t.outsideGuarantee = s.outsideGuarantee
  inputs : t.intReq = s.intReq ∧ t.copIntReq = s.copIntReq ∧ t.resetReq = s.resetReq ∧ t.copEnabled = s.copEnabled

/-- The instruction completes from `s` in a next state that meets `P`. -/
def Gives (i : Instr) (s : State) (P : State → Prop) : Prop := ∃ t, exec i s = .next t ∧ P t

/-- The instruction raises the exception `e` and does nothing else: the entry of R510 with the address of the instruction
in BPC (R511, R513). -/
def Traps (i : Instr) (s : State) (e : Event) : Prop := exec i s = .next (s.enter e s.pc)

/-- The mark of R571: `t` has it exactly when `s` has it, or when PM is written directly (`direct`) by an instruction
outside the user space 0x00000000-0x7FFFFFFF. -/
def MarksPm (direct : Bool) (s t : State) : Prop :=
  t.outsideGuarantee = true ↔ s.outsideGuarantee = true ∨ (direct = true ∧ 2147483648 ≤ s.pc.toNat)

/-- A divide instruction completes: a divisor 0 changes nothing; else register `dest` receives the quotient of `n` by
`m` rounded toward 0, which is the quotient whose remainder has the sign of the dividend (R313). -/
def DividesTo (i : Instr) (s : State) (dest : Reg) (n m : Int) : Prop :=
  Gives i s fun t => t.pc = s.npc32 ∧ (m = 0 → KeepsBut {} s t) ∧
    (m ≠ 0 → KeepsBut { regs := [s.cellOf dest] } s t ∧
      ∃ q r : Int, n = q * m + r ∧ r.natAbs < m.natAbs ∧ (0 ≤ n → 0 ≤ r) ∧ (n ≤ 0 → r ≤ 0) ∧
        t.reg dest = BitVec.ofInt 32 q)

/-- A remainder instruction completes: as `DividesTo`, with the remainder in register `dest` (R313). -/
def LeavesRemainder (i : Instr) (s : State) (dest : Reg) (n m : Int) : Prop :=
  Gives i s fun t => t.pc = s.npc32 ∧ (m = 0 → KeepsBut {} s t) ∧
    (m ≠ 0 → KeepsBut { regs := [s.cellOf dest] } s t ∧
      ∃ q r : Int, n = q * m + r ∧ r.natAbs < m.natAbs ∧ (0 ≤ n → 0 ≤ r) ∧ (n ≤ 0 → r ≤ 0) ∧
        t.reg dest = BitVec.ofInt 32 r)

/-- The instruction completes, writes register `dest` with a value that meets `P`, and changes nothing else. -/
def WritesReg (i : Instr) (s : State) (dest : Reg) (npc : Word) (P : Word → Prop) : Prop :=
  Gives i s fun t => t.pc = npc ∧ P (t.reg dest) ∧ KeepsBut { regs := [s.cellOf dest] } s t

/-- The instruction completes, makes the condition bit 1 exactly when `P` holds, and changes nothing else. -/
def ComputesC (i : Instr) (s : State) (npc : Word) (P : Prop) : Prop :=
  Gives i s fun t => t.pc = npc ∧ (t.c = true ↔ P) ∧ KeepsBut { psw := 1 } s t

/-- The instruction completes and changes nothing but the PC, which goes to `target` when `P` holds and to `npc` when it
does not. -/
def Branches (i : Instr) (s : State) (npc target : Word) (P : Prop) : Prop :=
  Gives i s fun t => (P → t.pc = target) ∧ (¬ P → t.pc = npc) ∧ KeepsBut {} s t

/-- The instruction completes: when `P` holds the PC goes to `target` and R14 receives the address of the next word,
and nothing else changes; when it does not, only the PC changes, to `npc`. -/
def BranchesAndLinks (i : Instr) (s : State) (npc target : Word) (P : Prop) : Prop :=
  Gives i s fun t =>
    (P → t.pc = target ∧ t.reg 14 = (s.pc &&& 0xFFFFFFFC) + 4 ∧ KeepsBut { regs := [.gpr 14] } s t) ∧
    (¬ P → t.pc = npc ∧ KeepsBut {} s t)

/-- The instruction completes, writes accumulator `a` with a value that meets `P`, and changes nothing else. -/
def WritesAcc (i : Instr) (s : State) (a : Acc) (P : State → Prop) : Prop :=
  Gives i s fun t => t.pc = s.npc16 ∧ P t ∧ KeepsBut { accs := [a] } s t

/-- The four bytes of a word at `a`. -/
def wordBytes (a : Word) : List Word := [a, a + 1, a + 2, a + 3]

/-- The two bytes of a halfword at `a`. -/
def halfBytes (a : Word) : List Word := [a, a + 1]

/-- Nothing is accepted at this step boundary (R515). -/
structure State.Quiet (s : State) : Prop where
  reset : s.resetReq = false
  int : (s.intReq && s.ie) = false
  cop : (s.copIntReq && s.ce) = false

/-- The control register numbers that name a register (R30). -/
def isControlRegister (n : CrNum) : Bool := n == 0 || n == 1 || n == 2 || n == 3 || n == 5 || n == 6

/-- Where an instruction is refused: MVFC, and MVTC in supervisor mode, of a number that names no register (U7); MVTC to
EVB in supervisor mode when EVB has been written (U10); `LD Rn,@Rn+` at an aligned address (U12). -/
def refuses (i : Instr) (s : State) : Option Refusal :=
  match i with
  | .mvfc _ cr => if isControlRegister cr then none else some (.noControlRegister cr)
  | .mvtc _ cr =>
    if s.pm then none
    else if isControlRegister cr = false then some (.noControlRegister cr)
    else if cr = 5 ∧ s.evbWritten = true then some .evbAlreadyWritten else none
  | .ldInc dest src =>
    if dest = src ∧ (s.reg src).toNat % 4 = 0 then some .registerWrittenTwice else none
  | .subv .. | .subx .. | .sub .. | .neg .. | .cmp .. | .cmpu .. | .cmpeq .. | .cmpz ..
  | .addv .. | .addx .. | .add .. | .not .. | .and .. | .xor .. | .or .. | .btst ..
  | .pcmpbz .. | .srl .. | .sra .. | .sll .. | .mul .. | .mv .. | .rte | .trap ..
  | .jc .. | .jnc .. | .jl .. | .jmp .. | .stb .. | .stbInc .. | .sth .. | .sthInc ..
  | .st .. | .unlock .. | .stPreInc .. | .stPreDec .. | .ldb .. | .ldub .. | .ldh .. | .lduh ..
  | .ld .. | .lock .. | .mulhi .. | .mullo .. | .mulwhi .. | .mulwlo .. | .machi ..
  | .maclo .. | .macwhi .. | .macwlo .. | .addi .. | .srli .. | .srai .. | .slli .. | .mvtachi ..
  | .mvtaclo .. | .rach .. | .rac .. | .mulwu1 .. | .macwu1 .. | .maclh1 .. | .msblo .. | .sadd
  | .mvfachi .. | .mvfaclo .. | .mvfacmi .. | .ldi8 .. | .nop | .setpsw .. | .clrpsw .. | .sc
  | .snc | .bcl8 .. | .bncl8 .. | .bc8 .. | .bnc8 .. | .bl8 .. | .bra8 .. | .cmpi ..
  | .cmpui .. | .sath .. | .satb .. | .addv3 .. | .add3 .. | .and3 .. | .xor3 .. | .or3 ..
  | .div .. | .divh .. | .divb .. | .divu .. | .divuh .. | .divub .. | .rem .. | .remh ..
  | .remb .. | .remu .. | .remuh .. | .remub .. | .srl3 .. | .sra3 .. | .sll3 .. | .ldi16 ..
  | .stbDisp .. | .sthDisp .. | .stDisp .. | .bset .. | .bclr .. | .ldbDisp .. | .ldubDisp .. | .ldhDisp ..
  | .lduhDisp .. | .ldDisp .. | .beq .. | .bne .. | .beqz .. | .bnez .. | .bltz .. | .bgez ..
  | .blez .. | .bgtz .. | .mvfcp .. | .mvtcp .. | .opecp .. | .seth .. | .ld24 .. | .bcl24 ..
  | .bncl24 .. | .bc24 .. | .bnc24 .. | .bl24 .. | .bra24 .. => none

/-- The bytes of memory an instruction stores to in state `s`. -/
def storeBytes (i : Instr) (s : State) : List Word :=
  match i with
  | .st _ src2 => wordBytes (s.eaReg src2)
  | .stPreInc _ src2 => wordBytes (s.eaPreInc src2)
  | .stPreDec _ src2 => wordBytes (s.eaPreDec src2)
  | .stDisp _ src2 disp16 => wordBytes (s.eaDisp src2 disp16)
  | .sth _ src2 | .sthInc _ src2 => halfBytes (s.eaReg src2)
  | .sthDisp _ src2 disp16 => halfBytes (s.eaDisp src2 disp16)
  | .unlock _ src2 => if s.lock then wordBytes (s.eaReg src2) else []
  | .stb _ src2 | .stbInc _ src2 => [s.eaReg src2]
  | .stbDisp _ src2 disp16 => [s.eaDisp src2 disp16]
  | .bset _ src disp16 | .bclr _ src disp16 => [s.eaDisp src disp16]
  | .subv .. | .subx .. | .sub .. | .neg .. | .cmp .. | .cmpu .. | .cmpeq .. | .cmpz ..
  | .addv .. | .addx .. | .add .. | .not .. | .and .. | .xor .. | .or .. | .btst ..
  | .pcmpbz .. | .srl .. | .sra .. | .sll .. | .mul .. | .mv .. | .mvfc .. | .mvtc ..
  | .rte | .trap .. | .jc .. | .jnc .. | .jl .. | .jmp .. | .ldb .. | .ldub ..
  | .ldh .. | .lduh .. | .ld .. | .lock .. | .ldInc .. | .mulhi .. | .mullo .. | .mulwhi ..
  | .mulwlo .. | .machi .. | .maclo .. | .macwhi .. | .macwlo .. | .addi .. | .srli .. | .srai ..
  | .slli .. | .mvtachi .. | .mvtaclo .. | .rach .. | .rac .. | .mulwu1 .. | .macwu1 .. | .maclh1 ..
  | .msblo .. | .sadd | .mvfachi .. | .mvfaclo .. | .mvfacmi .. | .ldi8 .. | .nop | .setpsw ..
  | .clrpsw .. | .sc | .snc | .bcl8 .. | .bncl8 .. | .bc8 .. | .bnc8 .. | .bl8 ..
  | .bra8 .. | .cmpi .. | .cmpui .. | .sath .. | .satb .. | .addv3 .. | .add3 .. | .and3 ..
  | .xor3 .. | .or3 .. | .div .. | .divh .. | .divb .. | .divu .. | .divuh .. | .divub ..
  | .rem .. | .remh .. | .remb .. | .remu .. | .remuh .. | .remub .. | .srl3 .. | .sra3 ..
  | .sll3 .. | .ldi16 .. | .ldbDisp .. | .ldubDisp .. | .ldhDisp .. | .lduhDisp .. | .ldDisp .. | .beq ..
  | .bne .. | .beqz .. | .bnez .. | .bltz .. | .bgez .. | .blez .. | .bgtz .. | .mvfcp ..
  | .mvtcp .. | .opecp .. | .seth .. | .ld24 .. | .bcl24 .. | .bncl24 .. | .bc24 .. | .bnc24 ..
  | .bl24 .. | .bra24 .. => []

/-- The PSW bits an instruction may write: C where it computes C (R36), all of PSW for MVTC to PSW and RTE, the bits of
the immediate for SETPSW and CLRPSW; SETPSW also leaves the bits with no storage 0 (D11). -/
def pswWrites : Instr → Word
  | .rte => 0xFFFFFFFF
  | .mvtc _ cr => if cr = 0 then 0xFFFFFFFF else 0
  | .clrpsw imm8 => zext imm8
  | .setpsw imm8 => zext imm8 ||| 0x32
  | .addv .. | .addx .. | .subv .. | .subx .. | .cmp .. | .cmpeq .. | .cmpu .. | .cmpz ..
  | .pcmpbz .. | .btst .. | .addv3 .. | .cmpi .. | .cmpui .. => 1
  | .sub .. | .neg .. | .add .. | .not .. | .and .. | .xor .. | .or .. | .srl ..
  | .sra .. | .sll .. | .mul .. | .mv .. | .mvfc .. | .jc .. | .jnc .. | .jl ..
  | .jmp .. | .stb .. | .stbInc .. | .sth .. | .sthInc .. | .st .. | .unlock .. | .stPreInc ..
  | .stPreDec .. | .ldb .. | .ldub .. | .ldh .. | .lduh .. | .ld .. | .lock .. | .ldInc ..
  | .mulhi .. | .mullo .. | .mulwhi .. | .mulwlo .. | .machi .. | .maclo .. | .macwhi .. | .macwlo ..
  | .addi .. | .srli .. | .srai .. | .slli .. | .mvtachi .. | .mvtaclo .. | .rach .. | .rac ..
  | .mulwu1 .. | .macwu1 .. | .maclh1 .. | .msblo .. | .sadd | .mvfachi .. | .mvfaclo .. | .mvfacmi ..
  | .ldi8 .. | .nop | .sc | .snc | .bcl8 .. | .bncl8 .. | .bc8 .. | .bnc8 ..
  | .bl8 .. | .bra8 .. | .sath .. | .satb .. | .add3 .. | .and3 .. | .xor3 .. | .or3 ..
  | .div .. | .divh .. | .divb .. | .divu .. | .divuh .. | .divub .. | .rem .. | .remh ..
  | .remb .. | .remu .. | .remuh .. | .remub .. | .srl3 .. | .sra3 .. | .sll3 .. | .ldi16 ..
  | .stbDisp .. | .sthDisp .. | .stDisp .. | .bset .. | .bclr .. | .ldbDisp .. | .ldubDisp .. | .ldhDisp ..
  | .lduhDisp .. | .ldDisp .. | .beq .. | .bne .. | .beqz .. | .bnez .. | .bltz .. | .bgez ..
  | .blez .. | .bgtz .. | .mvfcp .. | .mvtcp .. | .opecp .. | .seth .. | .ld24 .. | .bcl24 ..
  | .bncl24 .. | .bc24 .. | .bnc24 .. | .bl24 .. | .bra24 .. | .trap .. => 0

/-- Everything an instruction that raises nothing may change beside the PC; TRAP, whose effect is the entry of R510, is
not described here. -/
def writes (i : Instr) (s : State) : Writes where
  regs := regWrites i s
  accs := accWrites i
  bytes := storeBytes i s
  psw := pswWrites i
  bpc := match i with | .mvtc _ cr => cr == 6 | _ => false
  evb := match i with | .mvtc _ cr => cr == 5 | _ => false
  lock := match i with | .lock .. | .unlock .. => true | _ => false
  cop := match i with | .mvtcp .. | .mvfcp .. | .opecp .. => true | _ => false
  mark := match i with | .mvtc _ cr => cr == 0 | .setpsw imm8 | .clrpsw imm8 => imm8.getLsbD 3 | _ => false

end Sys2Proof.Machine
end

