-- ==== Sys2Proof/Certificates/Slice0/Obligations.lean ====
section
/-! DEFINITION. Obligations: the statements for the provers. Each docstring names the rules of spec/ a statement
formalises, or says that it is the model's own. The terms are those of Sys2Proof/Safety.lean. -/

open Sys2Proof Sys2Proof.Machine

/-! ### Encoding -/

/-- Decoding undoes encoding, for every well-formed instruction with every operand. -/
def Obligations.DecodeUndoesEncode : Prop :=
  ∀ i : Instr, i.wf = true → decode (encode i) = .ok i

/-- Encoding undoes decoding: what the decoder accepts is the encoding of exactly one instruction, up to the execution
bit of a halfword. That no fixed bit is ignored is the spec's decision D5 (log 13). -/
def Obligations.EncodeUndoesDecode : Prop :=
  (∀ (h : Half) (i : Instr), decode16 h = .ok i → i.wf = true ∧ encode i = .half (h &&& 0x7FFF)) ∧
  (∀ (w : Word) (i : Instr), decode32 w = .ok i → i.wf = true ∧ encode i = .word w)

/-- The first bit of the encoding tells the length of every instruction (R121), and the pairable instructions are the
16-bit ones (R465). -/
def Obligations.EncodingsTellTheirLength : Prop := ∀ i : Instr, Laws.EncodingClass.Statement i

/-- Bit 15 of a halfword is no part of the instruction (R122). -/
def Obligations.ExecutionBitIsIgnored : Prop := ∀ h : Half, decode16 (h ^^^ 0x8000) = decode16 h

/-- Words of the spec's own examples decode to the instructions they stand for. -/
def Obligations.ExampleWordsDecode : Prop :=
  decode16 0x21E2 = .ok (.ldInc 1 2) ∧ decode16 0x2E7F = .ok (.stPreDec 14 15) ∧ decode16 0x0140 = .ok (.cmp 1 0) ∧
  decode16 0x5148 = .ok (.slli 1 8) ∧ decode16 0x07F1 = .ok (.btst 7 1) ∧ decode16 0x31D2 = .ok (.maclo 1 2 .a1) ∧
  decode16 0x10D6 = .ok .rte ∧ decode16 0xF000 = .ok .nop ∧ decode32 0x8044000A = .ok (.cmpi 4 10) ∧
  decode32 0x91120018 = .ok (.divub 1 2) ∧ decode32 0xA0710004 = .ok (.bclr 0 1 4) ∧
  decode32 0xB091FFFF = .ok (.bnez 1 0xFFFF)

/-! ### Steps -/

/-- A step runs the decoded instruction: a 32-bit instruction, the upper or the lower half of a sequential word, or a
parallel pair, and the value of `npc` each of them sees. The PC and every other effect are those of `exec`. The step
function is the spec's own derivation (file 49, R461, R462, R474); what a step accepts first is its decision D7. -/
def Obligations.StepRunsTheDecodedInstruction : Prop :=
  ∀ (s : State) (i : Instr), s.Quiet →
    (s.pc.extractLsb' 0 2 = 0 → isWide s.fetchWord = true → decode32 s.fetchWord = .ok i →
      step s = exec i s ∧ s.npc32 = s.pc + 4) ∧
    (s.pc.extractLsb' 0 2 = 0 → isWide s.fetchWord = false → isParallel s.fetchWord = false →
      decode16 (upperHalf s.fetchWord) = .ok i → step s = exec i s ∧ s.npc16 = s.pc + 2) ∧
    (s.pc.extractLsb' 0 2 = 2 → isWide s.fetchWord = false → isParallel s.fetchWord = false →
      decode16 (lowerHalf s.fetchWord) = .ok i → step s = exec i s ∧ s.npc16 = s.pc + 2) ∧
    (∀ sd, s.pc.extractLsb' 0 2 = 0 → isWide s.fetchWord = false → isParallel s.fetchWord = true →
      decode16 (upperHalf s.fetchWord) = .ok i → decode16 (lowerHalf s.fetchWord) = .ok sd →
      step s = execPair i sd s ∧ s.npc16 = s.pc + 4)

/-- A halfword or word that is no instruction raises RIE, on either side of a pair too, and nothing is executed. That an
unassigned pattern raises RIE is the spec's decision D5 (log 13); what the entry does is D3, D4 and D23 (logs 11, 12,
18). -/
def Obligations.ReservedEncodingsRaiseRie : Prop :=
  ∀ (s : State) (d : DecodeError), s.Quiet →
    (s.pc.extractLsb' 0 2 = 0 → isWide s.fetchWord = true → decode32 s.fetchWord = .error d →
      step s = .next (s.enter .rie s.pc)) ∧
    (s.pc.extractLsb' 0 2 = 0 → isWide s.fetchWord = false → decode16 (upperHalf s.fetchWord) = .error d →
      step s = .next (s.enter .rie s.pc)) ∧
    (s.pc.extractLsb' 0 2 = 0 → isWide s.fetchWord = false → isParallel s.fetchWord = true →
      decode16 (lowerHalf s.fetchWord) = .error d → step s = .next (s.enter .rie s.pc)) ∧
    (s.pc.extractLsb' 0 2 = 2 → isWide s.fetchWord = false → isParallel s.fetchWord = false →
      decode16 (lowerHalf s.fetchWord) = .error d → step s = .next (s.enter .rie s.pc))

/-- What a step accepts at its boundary, in order: RI, EI when IE = 1, CPI when CE = 1, else the instruction. The order
is the spec's decision D7, the request lines are D6, the boundaries D20 (log 14). -/
def Obligations.BoundaryPriority : Prop :=
  ∀ s : State,
    (s.resetReq = true → step s = .next s.takeReset) ∧
    (s.resetReq = false → s.intReq = true → s.ie = true → step s = .next (s.enter .ei s.pc)) ∧
    (s.resetReq = false → (s.intReq && s.ie) = false → s.copIntReq = true → s.ce = true →
      step s = .next (s.enter .cpi s.pc)) ∧
    (s.resetReq = false → (s.intReq && s.ie) = false → (s.copIntReq && s.ce) = false → step s = s.execute)

/-- The only stops of the machine, each with its situation, all of them with no event accepted: an odd PC, which does not
exist (R25, log 33); a pair outside the placements (U15, log 29); entry at a half that is no sequential instruction (U16,
log 30); and the instructions of `refuses`: MVFC, or MVTC in supervisor mode, of a number that names no register (U7, log
28), MVTC to EVB once it has been written (U10, log 7), `LD Rn,@Rn+` at an aligned address (U12, log 27). -/
def Obligations.StepStopsOnlyWhereTheSpecRefuses : Prop :=
  ∀ s : State,
    (∀ f, step s = .fault f → s.Quiet ∧ s.pc.getLsbD 0 = true) ∧
    (∀ r, step s = .refused r → s.Quiet ∧ s.pc.getLsbD 0 = false ∧
      ((r = .pairPlacement ∧ s.pc.extractLsb' 0 2 = 0 ∧ isWide s.fetchWord = false ∧ isParallel s.fetchWord = true ∧
          ∃ o sd, decode16 (upperHalf s.fetchWord) = .ok o ∧ decode16 (lowerHalf s.fetchWord) = .ok sd ∧
            pairAllowed o sd = false) ∨
        (r = .insideWideInstruction ∧ s.pc.extractLsb' 0 2 = 2 ∧ isWide s.fetchWord = true) ∨
        (r = .insideParallelPair ∧ s.pc.extractLsb' 0 2 = 2 ∧ isWide s.fetchWord = false ∧
          isParallel s.fetchWord = true) ∨
        ∃ i, refuses i s = some r ∧ isWide s.fetchWord = false ∧
          decode16 (if s.pc.getLsbD 1 then lowerHalf s.fetchWord else upperHalf s.fetchWord) = .ok i))

/-- What the source leaves undefined and the spec's rulings refuse: entry at a half that is no sequential instruction
(R474, U16, log 30), a pair outside the placements (R475, U15, log 29), and an instruction on which `refuses` says so,
alone and on the upper side of a pair: a control register number that names no register (R31, U7, log 28), MVTC to EVB
once it has been written (R44, U10, log 7), `LD Rn,@Rn+` at an aligned address (R212, R475, U12, log 27). -/
def Obligations.UndefinedSituationsAreRefused : Prop :=
  (∀ s : State, s.Quiet → s.pc.extractLsb' 0 2 = 2 →
    (isWide s.fetchWord = true → step s = .refused .insideWideInstruction) ∧
    (isWide s.fetchWord = false → isParallel s.fetchWord = true → step s = .refused .insideParallelPair)) ∧
  (∀ (o sd : Instr) (s : State),
    (sd.pipe = .left ∨ sd.pipe = .wide ∨ o.pipe = .wide ∨ (o.pipe = .right ∧ sd ≠ .nop)) →
    execPair o sd s = .refused .pairPlacement) ∧
  (∀ (i : Instr) (s : State) (r : Refusal), refuses i s = some r →
    exec i s = .refused r ∧ ∀ sd, pairAllowed i sd = true → execPair i sd s = .refused r) ∧
  (∀ (r : Reg) (cr : CrNum) (s : State),
    (isControlRegister cr = false →
      exec (.mvfc r cr) s = .refused (.noControlRegister cr) ∧
      (s.pm = false → exec (.mvtc r cr) s = .refused (.noControlRegister cr))) ∧
    (s.pm = false → s.evbWritten = true → exec (.mvtc r 5) s = .refused .evbAlreadyWritten) ∧
    ((s.reg r).toNat % 4 = 0 → exec (.ldInc r r) s = .refused .registerWrittenTwice))

/-- The interface of the model: an encoded instruction placed by `withFetchWord` is what the next step runs (log 34). -/
def Obligations.PlacedInstructionRuns : Prop :=
  ∀ (s : State) (i : Instr), i.wf = true →
    match encode i with
    | .half h => step (s.withFetchWord 16 h.toNat) = exec i (s.withFetchWord 16 h.toNat)
    | .word w => step (s.withFetchWord 32 w.toNat) = exec i (s.withFetchWord 32 w.toNat)

/-! ### EIT -/

/-- The entry of every event but RI: BPC, the backup bits, the cleared bits, the PC, and the frame. SM is kept; for EI
and CPI the open parameter IntEntrySM may clear it. For TRAP this is the source's description; for the other events it
is the spec's decision D3 (log 11), the vector is D2 and D24 (log 10), LOCK is D12 (log 6). -/
def Obligations.EntrySequence : Prop :=
  ∀ (s : State) (e : Event) (p : Word), e ≠ .ri →
    (s.enter e p).bpc = p &&& 0xFFFFFFFE ∧
    (s.enter e p).bsm = s.sm ∧ (s.enter e p).bie = s.ie ∧ (s.enter e p).bpm = s.pm ∧ (s.enter e p).bce = s.ce ∧
    (s.enter e p).bc = s.c ∧ (s.enter e p).ie = false ∧ (s.enter e p).pm = false ∧ (s.enter e p).ce = false ∧
    (s.enter e p).c = false ∧
    ((s.enter e p).sm = s.sm ∨ ((e = .ei ∨ e = .cpi) ∧ (s.enter e p).sm = false)) ∧
    (s.enter e p).psw &&& ~~~pswMask = 0 ∧
    (∃ off : Nat, off < 65536 ∧ off % 2 = 0 ∧
      (s.enter e p).pc = (s.evb &&& 0xFFFF0000) + BitVec.ofNat 32 off) ∧
    KeepsBut { psw := 0xFFFFFFFF, bpc := true } s (s.enter e p)

/-- Returning undoes an entry: the PSW field and the PC come back, and nothing else differs but the backups. It rests on
the entry of the spec's decision D3 (log 11) and on LOCK being kept (D12, log 6). -/
def Obligations.ReturnUndoesEntry : Prop :=
  ∀ (s : State) (e : Event) (p : Word),
    (s.enter e p).eitReturn.psw &&& pswFieldMask = s.psw &&& pswFieldMask ∧
    (s.enter e p).eitReturn.pc = p &&& 0xFFFFFFFE ∧
    KeepsBut { psw := ~~~pswFieldMask, bpc := true } s (s.enter e p).eitReturn

/-- RTE in supervisor mode: each bit of the PSW field from its backup, the PC from BPC, and the frame. That the backup
bits and LOCK keep their values is the spec's reading (file 45, decision D12, log 6). -/
def Obligations.RteRestores : Prop :=
  ∀ s : State, s.pm = false → Gives .rte s fun t =>
    t.pc = s.bpc &&& 0xFFFFFFFE ∧ t.sm = s.bsm ∧ t.ie = s.bie ∧ t.pm = s.bpm ∧ t.ce = s.bce ∧ t.c = s.bc ∧
    t.psw &&& 0x0000FF00 = s.psw &&& 0x0000CD00 ∧ KeepsBut { psw := 0xFFFFFFFF } s t

/-- TRAP in either mode: the entry with the address of the next instruction in BPC; SM is not changed. The vector's
address is the spec's decisions D2 and D24 (log 10), LOCK is D12 (log 6). -/
def Obligations.TrapEnters : Prop :=
  ∀ (n : Fin 16) (s : State), Gives (.trap n) s fun t =>
    t.bpc = s.npc16 &&& 0xFFFFFFFE ∧ t.pc = (s.evb &&& 0xFFFF0000) + vecOffset (.trap n) ∧
    t.bsm = s.sm ∧ t.bie = s.ie ∧ t.bpm = s.pm ∧ t.bce = s.ce ∧ t.bc = s.c ∧
    t.sm = s.sm ∧ t.ie = false ∧ t.pm = false ∧ t.ce = false ∧ t.c = false ∧
    KeepsBut { psw := 0xFFFFFFFF, bpc := true } s t

/-- The four privileged instructions raise PIE in user mode, whatever their operands, and do nothing else. What the
entry of PIE does is the spec's decisions D3, D4 and D23 (logs 11, 12, 18). -/
def Obligations.PrivilegedInstructionsRaisePieInUserMode : Prop :=
  ∀ (s : State) (src : Reg) (cr : CrNum) (imm8 : BitVec 8), s.pm = true →
    Traps .rte s .pie ∧ Traps (.mvtc src cr) s .pie ∧ Traps (.setpsw imm8) s .pie ∧ Traps (.clrpsw imm8) s .pie

/-- Precision: an instruction that raises PIE, AE or CDE does nothing but the entry, with its own address in BPC; on the
upper side of a pair it stops the pair, and neither instruction executes. The spec's decisions D3, D4 and D23 (logs 11,
12, 18). -/
def Obligations.ExceptionsArePrecise : Prop :=
  ∀ (i : Instr) (s : State) (e : Event), raises i s = some e →
    (e = .pie ∨ e = .ae ∨ e = .cde) ∧ Traps i s e ∧
    ∀ sd, pairAllowed i sd = true → execPair i sd s = .next (s.enter e s.pc)

/-- Every instruction answers a next state from every state, but where the spec's rulings refuse it: MVFC and MVTC of a
number that names no register (U7, log 28), a second MVTC to EVB (U10, log 7), `LD Rn,@Rn+` (U12, log 27). -/
def Obligations.EveryInstructionCompletes : Prop :=
  ∀ (i : Instr) (s : State), refuses i s = none → ∃ t, exec i s = .next t

/-! ### Frames, modes and the invariant -/

/-- The frame of every instruction that raises nothing: outside what `writes` lists for it, everything is unchanged. -/
def Obligations.EveryInstructionKeepsItsFrame : Prop :=
  ∀ (i : Instr) (s t : State), raises i s = none → (∀ n, i ≠ .trap n) → exec i s = .next t →
    KeepsBut (writes i s) s t

/-- Confinement of user mode: an instruction executed in user mode that causes no EIT changes no bit of PSW but C, and
neither EVB, BPC nor the stack pointer R15 does not name. The spec's own derivation (R531). -/
def Obligations.UserModeIsConfined : Prop :=
  ∀ (i : Instr) (s t : State), s.pm = true → raises i s = none → (∀ n, i ≠ .trap n) → exec i s = .next t →
    t.psw &&& 0xFFFFFFFE = s.psw &&& 0xFFFFFFFE ∧ t.evb = s.evb ∧ t.evbWritten = s.evbWritten ∧ t.bpc = s.bpc ∧
    (s.sm = true → t.spi = s.spi) ∧ (s.sm = false → t.spu = s.spu)

/-- User mode is left by an EIT event only: a step from user mode to supervisor mode is a reset, or ends at the vector
entry of an event with the old mode in BPM. It rests on the entry of the spec's decision D3 (log 11) and the vector base
of D24 (log 10). -/
def Obligations.SupervisorModeIsEnteredByEitOnly : Prop :=
  ∀ s t : State, s.pm = true → step s = .next t → t.pm = false →
    (s.resetReq = true ∧ t = s.takeReset) ∨ ∃ e, e ≠ .ri ∧ t.pc = s.vecAddr e ∧ t.bpm = true

/-- Every step keeps the invariant, from every state that has it. That the fixed bits have no storage is the spec's
decision D11 (log 20). -/
def Obligations.EveryStepKeepsTheInvariant : Prop :=
  ∀ s t : State, s.Inv → step s = .next t → t.Inv

/-- The state after reset has the invariant. The registers the spec gives no reset value for hold the values of logs 1
to 5. -/
def Obligations.ResetHasTheInvariant : Prop := State.reset.Inv

/-- Reset: from any state a requested RI gives PC = 0, PSW 0 but for the BPSW bits, CBR = 0, EVB = 0, LOCK = 0 and
EVBwritten = 0, and does not touch memory; the state after reset has the same values. LOCK = 0 is the spec's decision
D12 (log 6), memory untouched is D13 (log 8), AT = 0 in EVB is D15 (log 10). -/
def Obligations.ResetEstablishesTheResetState : Prop :=
  (∀ s : State, s.resetReq = true → ∃ t, step s = .next t ∧
    t.pc = 0 ∧ t.psw &&& ~~~0x0000CD00 = 0 ∧ t.readCr 1 = some 0 ∧ t.evb = 0 ∧ t.lock = false ∧
    t.evbWritten = false ∧ ∀ a, t.readByte a = s.readByte a) ∧
  State.reset.pc = 0 ∧ State.reset.psw &&& ~~~0x0000CD00 = 0 ∧ State.reset.readCr 1 = some 0 ∧
  State.reset.evb = 0 ∧ State.reset.lock = false ∧ State.reset.evbWritten = false

/-! ### Registers -/

/-- R15 is SPI when SM = 0 and SPU when SM = 1, for reads and writes; R0-R14 are registers of their own (R22). -/
def Obligations.StackPointerIsBanked : Prop :=
  ∀ (s : State) (v : Word),
    (s.sm = false → s.reg 15 = s.spi ∧ (s.setReg 15 v).spi = v ∧ (s.setReg 15 v).spu = s.spu) ∧
    (s.sm = true → s.reg 15 = s.spu ∧ (s.setReg 15 v).spu = v ∧ (s.setReg 15 v).spi = s.spi) ∧
    (∀ r r' : Reg, (s.setReg r v).reg r' = if r' = r then v else s.reg r') ∧
    (∀ r : Reg, r ≠ 15 → (s.setReg r v).spi = s.spi ∧ (s.setReg r v).spu = s.spu)

/-- MVFC, in either mode: each register as it reads, with its fixed-zero bits 0; CBR is C. AT = 0 in EVB is the spec's
decision D15 (log 10). -/
def Obligations.MvfcReadsControlRegisters : Prop :=
  ∀ (dest : Reg) (s : State),
    WritesReg (.mvfc dest 0) s dest s.npc16 (· = s.psw &&& 0x0000CDCD) ∧
    WritesReg (.mvfc dest 1) s dest s.npc16 (fun v => v.toNat = if s.c then 1 else 0) ∧
    WritesReg (.mvfc dest 2) s dest s.npc16 (· = s.spi) ∧
    WritesReg (.mvfc dest 3) s dest s.npc16 (· = s.spu) ∧
    WritesReg (.mvfc dest 5) s dest s.npc16 (· = s.evb &&& 0x7FFF0000) ∧
    WritesReg (.mvfc dest 6) s dest s.npc16 (· = s.bpc &&& 0xFFFFFFFE)

/-- MVTC in supervisor mode: each register with its fixed-zero bits 0, the spec's decision D11 (log 20); a write of CBR
is ignored; the first write of EVB after reset stores. Writing PM = 1 outside the user space leaves the mark of R571, the
model's own field (log 32). -/
def Obligations.MvtcWritesControlRegisters : Prop :=
  ∀ (src : Reg) (s : State), s.pm = false →
    Gives (.mvtc src 0) s (fun t => t.pc = s.npc16 ∧ t.psw = s.reg src &&& 0x0000CDCD ∧
      MarksPm ((s.reg src).getLsbD 3) s t ∧ KeepsBut { psw := 0xFFFFFFFF, mark := true } s t) ∧
    Gives (.mvtc src 1) s (fun t => t.pc = s.npc16 ∧ KeepsBut {} s t) ∧
    Gives (.mvtc src 2) s (fun t => t.pc = s.npc16 ∧ t.spi = s.reg src ∧ KeepsBut { regs := [.spi] } s t) ∧
    Gives (.mvtc src 3) s (fun t => t.pc = s.npc16 ∧ t.spu = s.reg src ∧ KeepsBut { regs := [.spu] } s t) ∧
    (s.evbWritten = false → Gives (.mvtc src 5) s fun t => t.pc = s.npc16 ∧ t.evb = s.reg src &&& 0x7FFF0000 ∧
      t.evbWritten = true ∧ KeepsBut { evb := true } s t) ∧
    Gives (.mvtc src 6) s (fun t => t.pc = s.npc16 ∧ t.bpc = s.reg src &&& 0xFFFFFFFE ∧
      KeepsBut { bpc := true } s t)

/-- EVB is written once (R44, R587): the first MVTC to EVB in supervisor mode stores the base and marks EVB as written,
and from there no step but a reset changes EVB or the mark. A further MVTC to EVB is the spec's ruling U10: refused (log
7). -/
def Obligations.VectorBaseIsWrittenOnce : Prop :=
  (∀ (r : Reg) (s : State), s.pm = false →
    (s.evbWritten = false → Gives (.mvtc r 5) s fun t => t.evb = s.reg r &&& 0x7FFF0000 ∧ t.evbWritten = true) ∧
    (s.evbWritten = true → exec (.mvtc r 5) s = .refused .evbAlreadyWritten)) ∧
  ∀ s t : State, s.evbWritten = true → s.resetReq = false → step s = .next t →
    t.evb = s.evb ∧ t.evbWritten = true

/-! ### Memory -/

/-- Big endian memory: the bytes of a word and of a halfword store, the mixed-width reads after them, and every other
byte unchanged. The byte order is the spec's decision D1 (log 9). -/
def Obligations.StoresAreBigEndian : Prop :=
  ∀ (s : State) (a : Word),
    (∀ v : Word,
      (s.writeWord a v).readByte a = v.extractLsb' 24 8 ∧ (s.writeWord a v).readByte (a + 1) = v.extractLsb' 16 8 ∧
      (s.writeWord a v).readByte (a + 2) = v.extractLsb' 8 8 ∧ (s.writeWord a v).readByte (a + 3) = v.extractLsb' 0 8 ∧
      (s.writeWord a v).readHalf a = v.extractLsb' 16 16 ∧ (s.writeWord a v).readHalf (a + 2) = v.extractLsb' 0 16 ∧
      (s.writeWord a v).readWord a = v ∧ ∀ b, b ∉ wordBytes a → (s.writeWord a v).readByte b = s.readByte b) ∧
    (∀ v : Half,
      (s.writeHalf a v).readByte a = v.extractLsb' 8 8 ∧ (s.writeHalf a v).readByte (a + 1) = v.extractLsb' 0 8 ∧
      (s.writeHalf a v).readHalf a = v ∧ ∀ b, b ∉ halfBytes a → (s.writeHalf a v).readByte b = s.readByte b)

/-! ### Loads and stores -/

/-- LD in its three forms and LOCK, from a word boundary and off it; the post-increment form with `dest = src` at a word
boundary is refused (U12, log 27), in `UndefinedSituationsAreRefused`. What the entry of AE does is the spec's decisions D3, D4 and D23 (logs 11, 12, 18). -/
def Obligations.WordLoads : Prop :=
  ∀ (dest src : Reg) (disp16 : BitVec 16) (s : State),
    ((s.reg src).toNat % 4 = 0 →
      WritesReg (.ld dest src) s dest s.npc16 (· = s.readWord (s.reg src)) ∧
      (dest ≠ src → Gives (.ldInc dest src) s fun t => t.pc = s.npc16 ∧ t.reg dest = s.readWord (s.reg src) ∧
        t.reg src = s.reg src + 4 ∧ KeepsBut { regs := [s.cellOf dest, s.cellOf src] } s t) ∧
      Gives (.lock dest src) s fun t => t.pc = s.npc16 ∧ t.lock = true ∧ t.reg dest = s.readWord (s.reg src) ∧
        KeepsBut { regs := [s.cellOf dest], lock := true } s t) ∧
    ((s.reg src).toNat % 4 ≠ 0 →
      Traps (.ld dest src) s .ae ∧ Traps (.ldInc dest src) s .ae ∧ Traps (.lock dest src) s .ae) ∧
    ((s.reg src + disp16.signExtend 32).toNat % 4 = 0 →
      WritesReg (.ldDisp dest src disp16) s dest s.npc32 (· = s.readWord (s.reg src + disp16.signExtend 32))) ∧
    ((s.reg src + disp16.signExtend 32).toNat % 4 ≠ 0 → Traps (.ldDisp dest src disp16) s .ae)

/-- LDB, LDUB, LDH, LDUH in their two forms. A byte load has no alignment; a halfword load off a halfword boundary
raises AE, whose entry is the spec's decisions D3, D4 and D23 (logs 11, 12, 18). -/
def Obligations.ByteAndHalfwordLoads : Prop :=
  ∀ (dest src : Reg) (disp16 : BitVec 16) (s : State),
    WritesReg (.ldb dest src) s dest s.npc16 (fun v => v.toInt = (s.readByte (s.reg src)).toInt) ∧
    WritesReg (.ldub dest src) s dest s.npc16 (fun v => v.toNat = (s.readByte (s.reg src)).toNat) ∧
    WritesReg (.ldbDisp dest src disp16) s dest s.npc32
      (fun v => v.toInt = (s.readByte (s.reg src + disp16.signExtend 32)).toInt) ∧
    WritesReg (.ldubDisp dest src disp16) s dest s.npc32
      (fun v => v.toNat = (s.readByte (s.reg src + disp16.signExtend 32)).toNat) ∧
    ((s.reg src).toNat % 2 = 0 →
      WritesReg (.ldh dest src) s dest s.npc16 (fun v => v.toInt = (s.readHalf (s.reg src)).toInt) ∧
      WritesReg (.lduh dest src) s dest s.npc16 (fun v => v.toNat = (s.readHalf (s.reg src)).toNat)) ∧
    ((s.reg src).toNat % 2 ≠ 0 → Traps (.ldh dest src) s .ae ∧ Traps (.lduh dest src) s .ae) ∧
    ((s.reg src + disp16.signExtend 32).toNat % 2 = 0 →
      WritesReg (.ldhDisp dest src disp16) s dest s.npc32
        (fun v => v.toInt = (s.readHalf (s.reg src + disp16.signExtend 32)).toInt) ∧
      WritesReg (.lduhDisp dest src disp16) s dest s.npc32
        (fun v => v.toNat = (s.readHalf (s.reg src + disp16.signExtend 32)).toNat)) ∧
    ((s.reg src + disp16.signExtend 32).toNat % 2 ≠ 0 →
      Traps (.ldhDisp dest src disp16) s .ae ∧ Traps (.lduhDisp dest src disp16) s .ae)

/-- ST in its four forms: the value stored is that of before the instruction (the spec's decision D25, log 23), and the
update forms write the address back. What the entry of AE does is D3, D4 and D23 (logs 11, 12, 18). -/
def Obligations.WordStores : Prop :=
  ∀ (src1 src2 : Reg) (disp16 : BitVec 16) (s : State),
    ((s.reg src2).toNat % 4 = 0 →
      Gives (.st src1 src2) s (fun t => t.pc = s.npc16 ∧ t.readWord (s.reg src2) = s.reg src1 ∧
        KeepsBut { bytes := wordBytes (s.reg src2) } s t) ∧
      Gives (.stPreInc src1 src2) s (fun t => t.pc = s.npc16 ∧ t.readWord (s.reg src2 + 4) = s.reg src1 ∧
        t.reg src2 = s.reg src2 + 4 ∧
        KeepsBut { regs := [s.cellOf src2], bytes := wordBytes (s.reg src2 + 4) } s t) ∧
      Gives (.stPreDec src1 src2) s (fun t => t.pc = s.npc16 ∧ t.readWord (s.reg src2 - 4) = s.reg src1 ∧
        t.reg src2 = s.reg src2 - 4 ∧
        KeepsBut { regs := [s.cellOf src2], bytes := wordBytes (s.reg src2 - 4) } s t)) ∧
    ((s.reg src2).toNat % 4 ≠ 0 →
      Traps (.st src1 src2) s .ae ∧ Traps (.stPreInc src1 src2) s .ae ∧ Traps (.stPreDec src1 src2) s .ae) ∧
    ((s.reg src2 + disp16.signExtend 32).toNat % 4 = 0 →
      Gives (.stDisp src1 src2 disp16) s fun t => t.pc = s.npc32 ∧
        t.readWord (s.reg src2 + disp16.signExtend 32) = s.reg src1 ∧
        KeepsBut { bytes := wordBytes (s.reg src2 + disp16.signExtend 32) } s t) ∧
    ((s.reg src2 + disp16.signExtend 32).toNat % 4 ≠ 0 → Traps (.stDisp src1 src2 disp16) s .ae)

/-- STB and STH in their three forms. What the entry of AE does is the spec's decisions D3, D4 and D23 (logs 11, 12,
18); the value stored is that of before the instruction, D25 (log 23). -/
def Obligations.ByteAndHalfwordStores : Prop :=
  ∀ (src1 src2 : Reg) (disp16 : BitVec 16) (s : State),
    Gives (.stb src1 src2) s (fun t => t.pc = s.npc16 ∧ t.readByte (s.reg src2) = (s.reg src1).extractLsb' 0 8 ∧
      KeepsBut { bytes := [s.reg src2] } s t) ∧
    Gives (.stbInc src1 src2) s (fun t => t.pc = s.npc16 ∧ t.readByte (s.reg src2) = (s.reg src1).extractLsb' 0 8 ∧
      t.reg src2 = s.reg src2 + 1 ∧ KeepsBut { regs := [s.cellOf src2], bytes := [s.reg src2] } s t) ∧
    Gives (.stbDisp src1 src2 disp16) s (fun t => t.pc = s.npc32 ∧
      t.readByte (s.reg src2 + disp16.signExtend 32) = (s.reg src1).extractLsb' 0 8 ∧
      KeepsBut { bytes := [s.reg src2 + disp16.signExtend 32] } s t) ∧
    ((s.reg src2).toNat % 2 = 0 →
      Gives (.sth src1 src2) s (fun t => t.pc = s.npc16 ∧ t.readHalf (s.reg src2) = (s.reg src1).extractLsb' 0 16 ∧
        KeepsBut { bytes := halfBytes (s.reg src2) } s t) ∧
      Gives (.sthInc src1 src2) s (fun t => t.pc = s.npc16 ∧
        t.readHalf (s.reg src2) = (s.reg src1).extractLsb' 0 16 ∧ t.reg src2 = s.reg src2 + 2 ∧
        KeepsBut { regs := [s.cellOf src2], bytes := halfBytes (s.reg src2) } s t)) ∧
    ((s.reg src2).toNat % 2 ≠ 0 → Traps (.sth src1 src2) s .ae ∧ Traps (.sthInc src1 src2) s .ae) ∧
    ((s.reg src2 + disp16.signExtend 32).toNat % 2 = 0 →
      Gives (.sthDisp src1 src2 disp16) s fun t => t.pc = s.npc32 ∧
        t.readHalf (s.reg src2 + disp16.signExtend 32) = (s.reg src1).extractLsb' 0 16 ∧
        KeepsBut { bytes := halfBytes (s.reg src2 + disp16.signExtend 32) } s t) ∧
    ((s.reg src2 + disp16.signExtend 32).toNat % 2 ≠ 0 → Traps (.sthDisp src1 src2 disp16) s .ae)

/-- UNLOCK: the store happens only when LOCK = 1; LOCK becomes 0. Alignment is checked in both cases by the spec's
decision D21 (log 19); the entry of AE is D3, D4 and D23 (logs 11, 12, 18). -/
def Obligations.UnlockStoresOnlyWhenLocked : Prop :=
  ∀ (src1 src2 : Reg) (s : State),
    ((s.reg src2).toNat % 4 = 0 → s.lock = true → Gives (.unlock src1 src2) s fun t =>
      t.pc = s.npc16 ∧ t.lock = false ∧ t.readWord (s.reg src2) = s.reg src1 ∧
      KeepsBut { bytes := wordBytes (s.reg src2), lock := true } s t) ∧
    ((s.reg src2).toNat % 4 = 0 → s.lock = false → Gives (.unlock src1 src2) s fun t =>
      t.pc = s.npc16 ∧ t.lock = false ∧ KeepsBut {} s t) ∧
    ((s.reg src2).toNat % 4 ≠ 0 → Traps (.unlock src1 src2) s .ae)

/-! ### Transfer, compare, arithmetic, logic -/

/-- LD24, LDI, MV, SETH (R230-R232, R235). -/
def Obligations.Transfers : Prop :=
  ∀ (dest src : Reg) (imm8 : BitVec 8) (imm16 : BitVec 16) (imm24 : BitVec 24) (s : State),
    WritesReg (.ld24 dest imm24) s dest s.npc32 (fun v => v.toNat = imm24.toNat) ∧
    WritesReg (.ldi8 dest imm8) s dest s.npc16 (fun v => v.toInt = imm8.toInt) ∧
    WritesReg (.ldi16 dest imm16) s dest s.npc32 (fun v => v.toInt = imm16.toInt) ∧
    WritesReg (.mv dest src) s dest s.npc16 (· = s.reg src) ∧
    WritesReg (.seth dest imm16) s dest s.npc32 (fun v => v.toNat = imm16.toNat * 65536)

/-- The seven compare instructions (R250-R256): when C becomes 1, and that nothing else changes. -/
def Obligations.ComparesSetC : Prop :=
  ∀ (src1 src2 : Reg) (imm16 : BitVec 16) (s : State),
    ComputesC (.cmp src1 src2) s s.npc16 ((s.reg src1).toInt < (s.reg src2).toInt) ∧
    ComputesC (.cmpi src1 imm16) s s.npc32 ((s.reg src1).toInt < imm16.toInt) ∧
    ComputesC (.cmpu src1 src2) s s.npc16 ((s.reg src1).toNat < (s.reg src2).toNat) ∧
    ComputesC (.cmpui src1 imm16) s s.npc32 ((s.reg src1).toNat < (imm16.signExtend 32).toNat) ∧
    ComputesC (.cmpeq src1 src2) s s.npc16 (s.reg src1 = s.reg src2) ∧
    ComputesC (.cmpz src1) s s.npc16 (s.reg src1 = 0) ∧
    ComputesC (.pcmpbz src1) s s.npc16 (∃ k, k < 4 ∧ (s.reg src1).toNat / 2 ^ (8 * k) % 256 = 0)

/-- ADD, ADD3, ADDI, NEG, SUB wrap modulo 2^32 and leave C (R260-R262, R266, R267). -/
def Obligations.ArithmeticWraps : Prop :=
  ∀ (dest src : Reg) (imm8 : BitVec 8) (imm16 : BitVec 16) (s : State),
    WritesReg (.add dest src) s dest s.npc16
      (fun v => v = BitVec.ofInt 32 ((s.reg dest).toInt + (s.reg src).toInt)) ∧
    WritesReg (.add3 dest src imm16) s dest s.npc32
      (fun v => v = BitVec.ofInt 32 ((s.reg src).toInt + imm16.toInt)) ∧
    WritesReg (.addi dest imm8) s dest s.npc16
      (fun v => v = BitVec.ofInt 32 ((s.reg dest).toInt + imm8.toInt)) ∧
    WritesReg (.neg dest src) s dest s.npc16 (fun v => v = BitVec.ofInt 32 (-(s.reg src).toInt)) ∧
    WritesReg (.sub dest src) s dest s.npc16
      (fun v => v = BitVec.ofInt 32 ((s.reg dest).toInt - (s.reg src).toInt))

/-- ADDV, ADDV3, SUBV (R263, R264, R268, R281): the result wraps, and C is 1 exactly when it is not the exact result. -/
def Obligations.OverflowIsReportedInC : Prop :=
  ∀ (dest src : Reg) (imm16 : BitVec 16) (s : State),
    Gives (.addv dest src) s (fun t => t.pc = s.npc16 ∧ t.reg dest = s.reg dest + s.reg src ∧
      (t.c = true ↔ (t.reg dest).toInt ≠ (s.reg dest).toInt + (s.reg src).toInt) ∧
      KeepsBut { regs := [s.cellOf dest], psw := 1 } s t) ∧
    Gives (.addv3 dest src imm16) s (fun t => t.pc = s.npc32 ∧ t.reg dest = s.reg src + imm16.signExtend 32 ∧
      (t.c = true ↔ (t.reg dest).toInt ≠ (s.reg src).toInt + imm16.toInt) ∧
      KeepsBut { regs := [s.cellOf dest], psw := 1 } s t) ∧
    Gives (.subv dest src) s (fun t => t.pc = s.npc16 ∧ t.reg dest = s.reg dest - s.reg src ∧
      (t.c = true ↔ (t.reg dest).toInt ≠ (s.reg dest).toInt - (s.reg src).toInt) ∧
      KeepsBut { regs := [s.cellOf dest], psw := 1 } s t)

/-- ADDX and SUBX (R265, R269, R281): the result and C together are the exact unsigned sum or difference, so chains of
them compute multi-word sums. -/
def Obligations.CarryAndBorrowAreExact : Prop :=
  ∀ (dest src : Reg) (s : State),
    Gives (.addx dest src) s (fun t => t.pc = s.npc16 ∧
      (t.reg dest).toNat + (if t.c then 4294967296 else 0)
        = (s.reg dest).toNat + (s.reg src).toNat + (if s.c then 1 else 0) ∧
      KeepsBut { regs := [s.cellOf dest], psw := 1 } s t) ∧
    Gives (.subx dest src) s (fun t => t.pc = s.npc16 ∧
      (t.reg dest).toNat + (s.reg src).toNat + (if s.c then 1 else 0)
        = (s.reg dest).toNat + (if t.c then 4294967296 else 0) ∧
      KeepsBut { regs := [s.cellOf dest], psw := 1 } s t)

/-- The logic instructions, bit by bit (R270-R276): the 16-bit immediates are zero-extended. -/
def Obligations.LogicIsBitwise : Prop :=
  ∀ (dest src : Reg) (imm16 : BitVec 16) (s : State),
    WritesReg (.and dest src) s dest s.npc16
      (fun v => ∀ n, v.getLsbD n = ((s.reg dest).getLsbD n && (s.reg src).getLsbD n)) ∧
    WritesReg (.or dest src) s dest s.npc16
      (fun v => ∀ n, v.getLsbD n = ((s.reg dest).getLsbD n || (s.reg src).getLsbD n)) ∧
    WritesReg (.xor dest src) s dest s.npc16
      (fun v => ∀ n, v.getLsbD n = Bool.xor ((s.reg dest).getLsbD n) ((s.reg src).getLsbD n)) ∧
    WritesReg (.not dest src) s dest s.npc16 (fun v => ∀ n, n < 32 → v.getLsbD n = !(s.reg src).getLsbD n) ∧
    WritesReg (.and3 dest src imm16) s dest s.npc32
      (fun v => ∀ n, v.getLsbD n = ((s.reg src).getLsbD n && imm16.getLsbD n)) ∧
    WritesReg (.or3 dest src imm16) s dest s.npc32
      (fun v => ∀ n, v.getLsbD n = ((s.reg src).getLsbD n || imm16.getLsbD n)) ∧
    WritesReg (.xor3 dest src imm16) s dest s.npc32
      (fun v => ∀ n, v.getLsbD n = Bool.xor ((s.reg src).getLsbD n) (imm16.getLsbD n))

/-! ### Multiply, divide, shift -/

/-- MUL (R306): the low 32 bits of the product; the accumulators, which it destroys, are the only other change. -/
def Obligations.MultiplyDestroysOnlyTheAccumulators : Prop :=
  ∀ (dest src : Reg) (s : State), Gives (.mul dest src) s fun t =>
    t.pc = s.npc16 ∧ t.reg dest = s.reg dest * s.reg src ∧
    KeepsBut { regs := [s.cellOf dest], accs := [.a0, .a1] } s t

/-- The six divide instructions (R300-R305, R313). DIV of -2^31 by -1 completes too and changes nothing but Rdest, whose
value the spec does not give (R314). -/
def Obligations.QuotientsRoundTowardZero : Prop :=
  ∀ (dest src : Reg) (s : State),
    (¬ ((s.reg dest).toInt = -2147483648 ∧ (s.reg src).toInt = -1) →
      DividesTo (.div dest src) s dest (s.reg dest).toInt (s.reg src).toInt) ∧
    ((s.reg dest).toInt = -2147483648 → (s.reg src).toInt = -1 →
      WritesReg (.div dest src) s dest s.npc32 (fun _ => True)) ∧
    DividesTo (.divh dest src) s dest ((s.reg dest).setWidth 16).toInt (s.reg src).toInt ∧
    DividesTo (.divb dest src) s dest ((s.reg dest).setWidth 8).toInt (s.reg src).toInt ∧
    DividesTo (.divu dest src) s dest (s.reg dest).toNat (s.reg src).toNat ∧
    DividesTo (.divuh dest src) s dest ((s.reg dest).setWidth 16).toNat (s.reg src).toNat ∧
    DividesTo (.divub dest src) s dest ((s.reg dest).setWidth 8).toNat (s.reg src).toNat

/-- The six remainder instructions: the remainder has the sign of the dividend. That REM of -2^31 by -1 gives 0 is the
spec's own derivation in R314 (log 40). -/
def Obligations.RemaindersHaveTheSignOfTheDividend : Prop :=
  ∀ (dest src : Reg) (s : State),
    LeavesRemainder (.rem dest src) s dest (s.reg dest).toInt (s.reg src).toInt ∧
    LeavesRemainder (.remh dest src) s dest ((s.reg dest).setWidth 16).toInt (s.reg src).toInt ∧
    LeavesRemainder (.remb dest src) s dest ((s.reg dest).setWidth 8).toInt (s.reg src).toInt ∧
    LeavesRemainder (.remu dest src) s dest (s.reg dest).toNat (s.reg src).toNat ∧
    LeavesRemainder (.remuh dest src) s dest ((s.reg dest).setWidth 16).toNat (s.reg src).toNat ∧
    LeavesRemainder (.remub dest src) s dest ((s.reg dest).setWidth 8).toNat (s.reg src).toNat

/-- The nine shifts (R320-R328): left and logical right shifts as multiplication and division of the unsigned value,
arithmetic right shifts as floor division of the signed value, by a count of five bits. -/
def Obligations.ShiftsAreScaling : Prop :=
  ∀ (dest src : Reg) (imm5 : BitVec 5) (imm16 : BitVec 16) (s : State),
    WritesReg (.sll dest src) s dest s.npc16
      (fun v => v.toNat = (s.reg dest).toNat * 2 ^ ((s.reg src).toNat % 32) % 4294967296) ∧
    WritesReg (.sll3 dest src imm16) s dest s.npc32
      (fun v => v.toNat = (s.reg src).toNat * 2 ^ (imm16.toNat % 32) % 4294967296) ∧
    WritesReg (.slli dest imm5) s dest s.npc16
      (fun v => v.toNat = (s.reg dest).toNat * 2 ^ imm5.toNat % 4294967296) ∧
    WritesReg (.srl dest src) s dest s.npc16
      (fun v => v.toNat = (s.reg dest).toNat / 2 ^ ((s.reg src).toNat % 32)) ∧
    WritesReg (.srl3 dest src imm16) s dest s.npc32
      (fun v => v.toNat = (s.reg src).toNat / 2 ^ (imm16.toNat % 32)) ∧
    WritesReg (.srli dest imm5) s dest s.npc16 (fun v => v.toNat = (s.reg dest).toNat / 2 ^ imm5.toNat) ∧
    WritesReg (.sra dest src) s dest s.npc16
      (fun v => v.toInt = (s.reg dest).toInt / 2 ^ ((s.reg src).toNat % 32)) ∧
    WritesReg (.sra3 dest src imm16) s dest s.npc32
      (fun v => v.toInt = (s.reg src).toInt / 2 ^ (imm16.toNat % 32)) ∧
    WritesReg (.srai dest imm5) s dest s.npc16 (fun v => v.toInt = (s.reg dest).toInt / 2 ^ imm5.toNat)

/-! ### Branches -/

/-- The branches that do not link: when each is taken, and its target. That target arithmetic wraps is the spec's
decision D18 (log 22). -/
def Obligations.BranchesGoToTheirTargets : Prop :=
  ∀ (a b : Reg) (d8 : BitVec 8) (d16 : BitVec 16) (d24 : BitVec 24) (s : State),
    let t8 := (s.pc &&& 0xFFFFFFFC) + d8.signExtend 32 * 4
    let t16 := (s.pc &&& 0xFFFFFFFC) + d16.signExtend 32 * 4
    let t24 := (s.pc &&& 0xFFFFFFFC) + d24.signExtend 32 * 4
    let tr := s.reg a &&& 0xFFFFFFFC
    Branches (.bc8 d8) s s.npc16 t8 (s.c = true) ∧ Branches (.bc24 d24) s s.npc32 t24 (s.c = true) ∧
    Branches (.bnc8 d8) s s.npc16 t8 (s.c = false) ∧ Branches (.bnc24 d24) s s.npc32 t24 (s.c = false) ∧
    Branches (.bra8 d8) s s.npc16 t8 True ∧ Branches (.bra24 d24) s s.npc32 t24 True ∧
    Branches (.beq a b d16) s s.npc32 t16 (s.reg a = s.reg b) ∧
    Branches (.bne a b d16) s s.npc32 t16 (s.reg a ≠ s.reg b) ∧
    Branches (.beqz a d16) s s.npc32 t16 (s.reg a = 0) ∧ Branches (.bnez a d16) s s.npc32 t16 (s.reg a ≠ 0) ∧
    Branches (.bltz a d16) s s.npc32 t16 ((s.reg a).toInt < 0) ∧
    Branches (.bgez a d16) s s.npc32 t16 (0 ≤ (s.reg a).toInt) ∧
    Branches (.blez a d16) s s.npc32 t16 ((s.reg a).toInt ≤ 0) ∧
    Branches (.bgtz a d16) s s.npc32 t16 (0 < (s.reg a).toInt) ∧
    Branches (.jc a) s s.npc16 tr (s.c = true) ∧ Branches (.jnc a) s s.npc16 tr (s.c = false) ∧
    Branches (.jmp a) s s.npc16 tr True

/-- The branches that link: R14 is written only when the branch is taken, with the address of the next word. That JL
reads its register before it writes R14 is the spec's decision D25 (log 23). -/
def Obligations.CallsLinkOnlyWhenTaken : Prop :=
  ∀ (a : Reg) (d8 : BitVec 8) (d24 : BitVec 24) (s : State),
    let t8 := (s.pc &&& 0xFFFFFFFC) + d8.signExtend 32 * 4
    let t24 := (s.pc &&& 0xFFFFFFFC) + d24.signExtend 32 * 4
    BranchesAndLinks (.bcl8 d8) s s.npc16 t8 (s.c = true) ∧ BranchesAndLinks (.bcl24 d24) s s.npc32 t24 (s.c = true) ∧
    BranchesAndLinks (.bncl8 d8) s s.npc16 t8 (s.c = false) ∧
    BranchesAndLinks (.bncl24 d24) s s.npc32 t24 (s.c = false) ∧
    BranchesAndLinks (.bl8 d8) s s.npc16 t8 True ∧ BranchesAndLinks (.bl24 d24) s s.npc32 t24 True ∧
    BranchesAndLinks (.jl a) s s.npc16 (s.reg a &&& 0xFFFFFFFC) True

/-- NOP, and SC and SNC in a sequential word: in the upper half a true condition skips the lower half, in the lower half
they only advance. SC and SNC outside a pair are the spec's decision D19 (log 21). -/
def Obligations.NopAndSequentialSkips : Prop :=
  ∀ s : State,
    Gives .nop s (fun t => t.pc = s.npc16 ∧ KeepsBut {} s t) ∧
    (s.pc.extractLsb' 0 2 = 0 → s.parallelBit = false →
      Branches .sc s (s.pc + 2) (s.pc + 4) (s.c = true) ∧ Branches .snc s (s.pc + 2) (s.pc + 4) (s.c = false)) ∧
    (s.pc.extractLsb' 0 2 = 2 →
      Gives .sc s (fun t => t.pc = s.pc + 2 ∧ KeepsBut {} s t) ∧
      Gives .snc s (fun t => t.pc = s.pc + 2 ∧ KeepsBut {} s t))

/-! ### Bits -/

/-- BSET, BCLR and BTST (R380-R382, R128): bit position 0 is the most significant bit of the byte. -/
def Obligations.BitOperations : Prop :=
  ∀ (b : Fin 8) (src : Reg) (disp16 : BitVec 16) (s : State),
    let ea := s.reg src + disp16.signExtend 32
    Gives (.bset b src disp16) s (fun t => t.pc = s.npc32 ∧
      (∀ n, (t.readByte ea).getLsbD n = if n = 7 - b.val then true else (s.readByte ea).getLsbD n) ∧
      KeepsBut { bytes := [ea] } s t) ∧
    Gives (.bclr b src disp16) s (fun t => t.pc = s.npc32 ∧
      (∀ n, (t.readByte ea).getLsbD n = if n = 7 - b.val then false else (s.readByte ea).getLsbD n) ∧
      KeepsBut { bytes := [ea] } s t) ∧
    ComputesC (.btst b src) s s.npc16 ((s.reg src).getLsbD (7 - b.val) = true)

/-- SETPSW and CLRPSW in supervisor mode: the fields of PSW whose bits the immediate names are set or cleared; the BPSW
field does not change. That SETPSW leaves the bits with no storage 0 is the spec's decision D11 (log 20). With bit 0x08
outside the user space they leave the mark of R571, the model's own field (log 32). -/
def Obligations.PswImmediates : Prop :=
  ∀ (imm8 : BitVec 8) (s : State), s.pm = false →
    Gives (.setpsw imm8) s (fun t => t.pc = s.npc16 ∧ t.c = (s.c || imm8.getLsbD 0) ∧
      t.ce = (s.ce || imm8.getLsbD 2) ∧ t.pm = imm8.getLsbD 3 ∧ t.ie = (s.ie || imm8.getLsbD 6) ∧
      t.sm = (s.sm || imm8.getLsbD 7) ∧ t.psw &&& 0x32 = 0 ∧
      MarksPm (imm8.getLsbD 3) s t ∧ KeepsBut { psw := 0xFF, mark := true } s t) ∧
    Gives (.clrpsw imm8) s (fun t => t.pc = s.npc16 ∧ t.c = (s.c && !imm8.getLsbD 0) ∧
      t.ce = (s.ce && !imm8.getLsbD 2) ∧ t.pm = false ∧ t.ie = (s.ie && !imm8.getLsbD 6) ∧
      t.sm = (s.sm && !imm8.getLsbD 7) ∧
      MarksPm (imm8.getLsbD 3) s t ∧ KeepsBut { psw := 0xFF, mark := true } s t)

/-! ### DSP -/

/-- The five DSP multiplies (R407-R411): the accumulator, read as a signed integer, is the exact product. -/
def Obligations.DspProducts : Prop :=
  ∀ (a b : Reg) (acc : Acc) (s : State),
    let hi (r : Reg) := ((s.reg r).extractLsb' 16 16).toInt
    let lo (r : Reg) := ((s.reg r).extractLsb' 0 16).toInt
    let ulo (r : Reg) : Int := ((s.reg r).extractLsb' 0 16).toNat
    let w := (s.reg a).toInt
    WritesAcc (.mulhi a b acc) s acc (fun t => t.accInt acc = hi a * hi b * 65536) ∧
    WritesAcc (.mullo a b acc) s acc (fun t => t.accInt acc = lo a * lo b * 65536) ∧
    WritesAcc (.mulwhi a b) s .a0 (fun t => t.accInt .a0 = w * hi b) ∧
    WritesAcc (.mulwlo a b) s .a0 (fun t => t.accInt .a0 = w * lo b) ∧
    WritesAcc (.mulwu1 a b) s .a1 (fun t => t.accInt .a1 = w * ulo b)

/-- The seven multiply-accumulates and SADD (R400-R406, R419): the sum is stored modulo 2^56. -/
def Obligations.DspAccumulates : Prop :=
  ∀ (a b : Reg) (acc : Acc) (s : State),
    let hi (r : Reg) := ((s.reg r).extractLsb' 16 16).toInt
    let lo (r : Reg) := ((s.reg r).extractLsb' 0 16).toInt
    let ulo (r : Reg) : Int := ((s.reg r).extractLsb' 0 16).toNat
    let w := (s.reg a).toInt
    WritesAcc (.machi a b acc) s acc (fun t => t.acc acc = s.acc acc + BitVec.ofInt 56 (hi a * hi b * 65536)) ∧
    WritesAcc (.maclo a b acc) s acc (fun t => t.acc acc = s.acc acc + BitVec.ofInt 56 (lo a * lo b * 65536)) ∧
    WritesAcc (.maclh1 a b) s .a1 (fun t => t.acc1 = s.acc1 + BitVec.ofInt 56 (lo a * hi b * 65536)) ∧
    WritesAcc (.macwhi a b) s .a0 (fun t => t.acc0 = s.acc0 + BitVec.ofInt 56 (w * hi b)) ∧
    WritesAcc (.macwlo a b) s .a0 (fun t => t.acc0 = s.acc0 + BitVec.ofInt 56 (w * lo b)) ∧
    WritesAcc (.macwu1 a b) s .a1 (fun t => t.acc1 = s.acc1 + BitVec.ofInt 56 (w * ulo b)) ∧
    WritesAcc (.msblo a b) s .a0 (fun t => t.acc0 = s.acc0 - BitVec.ofInt 56 (lo a * lo b * 65536)) ∧
    WritesAcc .sadd s .a0 (fun t => t.acc0 = s.acc0 + (s.acc1).sshiftRight 16)

/-- RAC and RACH (R417, R418): the shifted accumulator rounded to the nearest multiple of 2^16 or 2^32, halves upward,
saturated. The statement holds of every shift count, not of 1 and 2 only. -/
def Obligations.RoundingSaturates : Prop :=
  ∀ (ad as : Acc) (k : Nat) (s : State),
    let x := s.accInt as * 2 ^ k
    WritesAcc (.rac ad as k) s ad (fun t =>
      (140737488289792 < x + 32768 → t.accInt ad = 140737488289792) ∧
      (x + 32768 < -140737488355328 → t.accInt ad = -140737488355328) ∧
      (-140737488355328 ≤ x + 32768 → x + 32768 ≤ 140737488289792 →
        t.accInt ad % 65536 = 0 ∧ t.accInt ad ≤ x + 32768 ∧ x + 32768 < t.accInt ad + 65536)) ∧
    WritesAcc (.rach ad as k) s ad (fun t =>
      (140733193388032 < x + 2147483648 → t.accInt ad = 140733193388032) ∧
      (x + 2147483648 < -140737488355328 → t.accInt ad = -140737488355328) ∧
      (-140737488355328 ≤ x + 2147483648 → x + 2147483648 ≤ 140733193388032 →
        t.accInt ad % 4294967296 = 0 ∧ t.accInt ad ≤ x + 2147483648 ∧ x + 2147483648 < t.accInt ad + 4294967296))

/-- The accumulator transfers (R412-R416): which bits of the 64-bit view, or of the 56 stored bits, each one moves. -/
def Obligations.AccumulatorTransfers : Prop :=
  ∀ (r : Reg) (acc : Acc) (s : State),
    WritesReg (.mvfachi r acc) s r s.npc16
      (fun v => ∀ n, n < 32 → v.getLsbD n = (s.acc acc).getLsbD (min (32 + n) 55)) ∧
    WritesReg (.mvfaclo r acc) s r s.npc16 (fun v => ∀ n, n < 32 → v.getLsbD n = (s.acc acc).getLsbD n) ∧
    WritesReg (.mvfacmi r acc) s r s.npc16 (fun v => ∀ n, n < 32 → v.getLsbD n = (s.acc acc).getLsbD (16 + n)) ∧
    WritesAcc (.mvtachi r acc) s acc (fun t => ∀ n, n < 56 →
      (t.acc acc).getLsbD n = if n < 32 then (s.acc acc).getLsbD n else (s.reg r).getLsbD (n - 32)) ∧
    WritesAcc (.mvtaclo r acc) s acc (fun t => ∀ n, n < 56 →
      (t.acc acc).getLsbD n = if n < 32 then (s.reg r).getLsbD n else (s.acc acc).getLsbD n)

/-- SATB and SATH (R420, R421): the signed value clamped to a byte or a halfword. -/
def Obligations.SaturationClamps : Prop :=
  ∀ (dest src : Reg) (s : State),
    WritesReg (.satb dest src) s dest s.npc32 (fun v => v.toInt = max (-128) (min 127 (s.reg src).toInt)) ∧
    WritesReg (.sath dest src) s dest s.npc32 (fun v => v.toInt = max (-32768) (min 32767 (s.reg src).toInt))

/-! ### Coprocessor -/

/-- MVTCP, MVFCP, OPECP: CDE before any effect when the coprocessor is not enabled; else one operation is given to it,
and the only CPU register written is MVFCP's destination, with the value the coprocessor returns. The interface is the
spec's decision D16 (log 31), the entry of CDE D3, D4 and D23 (logs 11, 12, 18). -/
def Obligations.CoprocessorInstructions : Prop :=
  ∀ (r : Reg) (p q : CpReg) (inst : BitVec 8) (cpid : CpNum) (s : State),
    (s.copEnabled.getLsbD cpid.val = true →
      Gives (.mvtcp r p inst cpid) s (fun t => t.pc = s.npc32 ∧
        t.copLog = .write cpid p inst (s.reg r) :: s.copLog ∧ KeepsBut { cop := true } s t) ∧
      Gives (.mvfcp r p inst cpid) s (fun t => t.pc = s.npc32 ∧
        t.reg r = Config.copValue s.copLog cpid p inst ∧ t.copLog = .read cpid p inst :: s.copLog ∧
        KeepsBut { regs := [s.cellOf r], cop := true } s t) ∧
      Gives (.opecp p q inst cpid) s (fun t => t.pc = s.npc32 ∧
        t.copLog = .operate cpid p q inst :: s.copLog ∧ KeepsBut { cop := true } s t)) ∧
    (s.copEnabled.getLsbD cpid.val = false →
      Traps (.mvtcp r p inst cpid) s .cde ∧ Traps (.mvfcp r p inst cpid) s .cde ∧ Traps (.opecp p q inst cpid) s .cde)

/-! ### Parallel pairs -/

/-- `A || NOP` is A alone (R147), for every 16-bit instruction A, with the PC then past the word. -/
def Obligations.PairWithNopIsTheInstructionAlone : Prop :=
  ∀ (o : Instr) (s : State), o.pipe ≠ .wide → execPair o .nop s = exec o s ∧
    (s.pc.extractLsb' 0 2 = 0 → s.parallelBit = true → s.npc16 = s.pc + 4)

/-- What an instruction of the lower half of a pair may write: it raises nothing, and it changes nothing but its
registers, C and its accumulators. A property of the categories of R465. -/
def Obligations.LowerInstructionsWriteRegistersOnly : Prop :=
  ∀ (sd : Instr) (s : State), sd.pipe = .both ∨ sd.pipe = .right →
    raises sd s = none ∧ ∃ t, exec sd s = .next t ∧ t.pc = s.npc16 ∧
      KeepsBut { regs := regWrites sd s, accs := accWrites sd, psw := if writesC sd then 1 else 0 } s t

/-- A pair whose upper instruction raises nothing and cancels nothing: both are computed on the state before the pair;
the registers, accumulators and C the lower one writes hold its results unless the upper one writes them too; everything
else is the upper one's. What counts as written by both is the spec's decision D26 (log 24). -/
def Obligations.PairsReadTheStateBefore : Prop :=
  ∀ (o sd : Instr) (s sO sS : State), pairAllowed o sd = true → raises o s = none → cancels o s = false →
    exec o s = .next sO → exec sd s = .next sS →
    ∃ t, execPair o sd s = .next t ∧ t.pc = sO.pc ∧
      (∀ k, k ∈ regWrites sd s → k ∉ claims o s → t.cell k = sS.cell k) ∧
      (∀ k, k ∉ regWrites sd s → t.cell k = sO.cell k) ∧
      (∀ a, t.acc a = if a ∈ accWrites sd then sS.acc a else sO.acc a) ∧
      (writesC sd = true → writesC o = false → t.c = sS.c) ∧ (writesC sd = false → t.c = sO.c) ∧
      t.psw &&& 0xFFFFFFFE = sO.psw &&& 0xFFFFFFFE ∧ (∀ a, t.readByte a = sO.readByte a) ∧
      t.bpc = sO.bpc ∧ t.evb = sO.evb ∧ t.evbWritten = sO.evbWritten ∧ t.lock = sO.lock ∧ t.copLog = sO.copLog ∧
      t.copEnabled = sO.copEnabled ∧ t.intReq = sO.intReq ∧ t.copIntReq = sO.copIntReq ∧ t.resetReq = sO.resetReq ∧
      t.outsideGuarantee = sO.outsideGuarantee

/-- SC and SNC in a pair (file 49, R471): the partner takes no effect when the condition cancels it, and its whole
effect when it does not; the pair is left for the next word either way. That a cancelled partner counts as no writer is
the model's reading (log 39). -/
def Obligations.SkipsCancelThePartner : Prop :=
  ∀ (sd : Instr) (s : State), sd.pipe = .both ∨ sd.pipe = .right → s.pc.extractLsb' 0 2 = 0 → s.parallelBit = true →
    (s.c = true → ∃ t, execPair .sc sd s = .next t ∧ t.pc = s.pc + 4 ∧ KeepsBut {} s t) ∧
    (s.c = false → ∃ t, execPair .snc sd s = .next t ∧ t.pc = s.pc + 4 ∧ KeepsBut {} s t) ∧
    (∀ u, exec sd s = .next u →
      (s.c = false → ∃ t, execPair .sc sd s = .next t ∧ t.pc = s.pc + 4 ∧ (∀ k, t.cell k = u.cell k) ∧
        (∀ a, t.acc a = u.acc a) ∧ t.c = u.c) ∧
      (s.c = true → ∃ t, execPair .snc sd s = .next t ∧ t.pc = s.pc + 4 ∧ (∀ k, t.cell k = u.cell k) ∧
        (∀ a, t.acc a = u.acc a) ∧ t.c = u.c))

/-- TRAP in a pair: the partner is executed on the state before the pair, and the trap saves the bits of before the pair
and the address after it. The spec's own derivation (R477, R467); the vector is D2 and D24 (log 10). -/
def Obligations.TrapInPairExecutesThePartner : Prop :=
  ∀ (n : Fin 16) (sd : Instr) (s u : State), sd.pipe = .both ∨ sd.pipe = .right → s.pc.extractLsb' 0 2 = 0 →
    s.parallelBit = true → exec sd s = .next u →
    ∃ t, execPair (.trap n) sd s = .next t ∧ t.pc = s.vecAddr (.trap n) ∧ t.bpc = (s.pc + 4) &&& 0xFFFFFFFE ∧
      (∀ k, t.cell k = u.cell k) ∧ (∀ a, t.acc a = u.acc a) ∧ t.bsm = s.sm ∧ t.bie = s.ie ∧ t.bpm = s.pm ∧
      t.bce = s.ce ∧ t.bc = s.c ∧ t.ie = false ∧ t.pm = false ∧ t.ce = false ∧ (writesC sd = false → t.c = false)
end

