-- ==== Sys2Proof/Laws/State.lean ====
section
/-! SUPPORT. Laws/State: one lemma for each field and each update of the state: what the update leaves unchanged, and
what the accessors read after it. -/

namespace Sys2Proof.Machine

/-! ### setCell -/

@[simp] theorem State.setCell_pc (s : State) (k : Cell) (v : Word) : (s.setCell k v).pc = s.pc := by cases k <;> rfl
@[simp] theorem State.setCell_psw (s : State) (k : Cell) (v : Word) : (s.setCell k v).psw = s.psw := by cases k <;> rfl
@[simp] theorem State.setCell_evb (s : State) (k : Cell) (v : Word) : (s.setCell k v).evb = s.evb := by cases k <;> rfl
@[simp] theorem State.setCell_bpc (s : State) (k : Cell) (v : Word) : (s.setCell k v).bpc = s.bpc := by cases k <;> rfl
@[simp] theorem State.setCell_evbWritten (s : State) (k : Cell) (v : Word) : (s.setCell k v).evbWritten = s.evbWritten := by cases k <;> rfl
@[simp] theorem State.setCell_acc0 (s : State) (k : Cell) (v : Word) : (s.setCell k v).acc0 = s.acc0 := by cases k <;> rfl
@[simp] theorem State.setCell_acc1 (s : State) (k : Cell) (v : Word) : (s.setCell k v).acc1 = s.acc1 := by cases k <;> rfl
@[simp] theorem State.setCell_lock (s : State) (k : Cell) (v : Word) : (s.setCell k v).lock = s.lock := by cases k <;> rfl
@[simp] theorem State.setCell_mem (s : State) (k : Cell) (v : Word) : (s.setCell k v).mem = s.mem := by cases k <;> rfl
@[simp] theorem State.setCell_intReq (s : State) (k : Cell) (v : Word) : (s.setCell k v).intReq = s.intReq := by cases k <;> rfl
@[simp] theorem State.setCell_copIntReq (s : State) (k : Cell) (v : Word) : (s.setCell k v).copIntReq = s.copIntReq := by cases k <;> rfl
@[simp] theorem State.setCell_resetReq (s : State) (k : Cell) (v : Word) : (s.setCell k v).resetReq = s.resetReq := by cases k <;> rfl
@[simp] theorem State.setCell_copEnabled (s : State) (k : Cell) (v : Word) : (s.setCell k v).copEnabled = s.copEnabled := by cases k <;> rfl
@[simp] theorem State.setCell_copLog (s : State) (k : Cell) (v : Word) : (s.setCell k v).copLog = s.copLog := by cases k <;> rfl
@[simp] theorem State.setCell_freeCount (s : State) (k : Cell) (v : Word) : (s.setCell k v).freeCount = s.freeCount := by cases k <;> rfl
@[simp] theorem State.setCell_outsideGuarantee (s : State) (k : Cell) (v : Word) : (s.setCell k v).outsideGuarantee = s.outsideGuarantee := by cases k <;> rfl
@[simp] theorem State.setCell_acc (s : State) (k : Cell) (v : Word) (j : Acc) :
    (s.setCell k v).acc j = s.acc j := by cases k <;> rfl
@[simp] theorem State.setCell_readByte (s : State) (k : Cell) (v : Word) (q : Word) :
    (s.setCell k v).readByte q = s.readByte q := by cases k <;> rfl
@[simp] theorem State.setCell_readHalf (s : State) (k : Cell) (v : Word) (q : Word) :
    (s.setCell k v).readHalf q = s.readHalf q := by cases k <;> rfl
@[simp] theorem State.setCell_readWord (s : State) (k : Cell) (v : Word) (q : Word) :
    (s.setCell k v).readWord q = s.readWord q := by cases k <;> rfl
@[simp] theorem State.setCell_c (s : State) (k : Cell) (v : Word) :
    (s.setCell k v).c = s.c := by cases k <;> rfl
@[simp] theorem State.setCell_pm (s : State) (k : Cell) (v : Word) :
    (s.setCell k v).pm = s.pm := by cases k <;> rfl
@[simp] theorem State.setCell_sm (s : State) (k : Cell) (v : Word) :
    (s.setCell k v).sm = s.sm := by cases k <;> rfl
@[simp] theorem State.setCell_cellOf (s : State) (k : Cell) (v : Word) (q : Reg) :
    (s.setCell k v).cellOf q = s.cellOf q := by cases k <;> rfl
@[simp] theorem State.setCell_copOn (s : State) (k : Cell) (v : Word) (q : CpNum) :
    (s.setCell k v).copOn q = s.copOn q := by cases k <;> rfl

/-! ### setReg -/

@[simp] theorem State.setReg_pc (s : State) (r : Reg) (v : Word) : (s.setReg r v).pc = s.pc := s.setCell_pc _ v
@[simp] theorem State.setReg_psw (s : State) (r : Reg) (v : Word) : (s.setReg r v).psw = s.psw := s.setCell_psw _ v
@[simp] theorem State.setReg_evb (s : State) (r : Reg) (v : Word) : (s.setReg r v).evb = s.evb := s.setCell_evb _ v
@[simp] theorem State.setReg_bpc (s : State) (r : Reg) (v : Word) : (s.setReg r v).bpc = s.bpc := s.setCell_bpc _ v
@[simp] theorem State.setReg_evbWritten (s : State) (r : Reg) (v : Word) : (s.setReg r v).evbWritten = s.evbWritten := s.setCell_evbWritten _ v
@[simp] theorem State.setReg_acc0 (s : State) (r : Reg) (v : Word) : (s.setReg r v).acc0 = s.acc0 := s.setCell_acc0 _ v
@[simp] theorem State.setReg_acc1 (s : State) (r : Reg) (v : Word) : (s.setReg r v).acc1 = s.acc1 := s.setCell_acc1 _ v
@[simp] theorem State.setReg_lock (s : State) (r : Reg) (v : Word) : (s.setReg r v).lock = s.lock := s.setCell_lock _ v
@[simp] theorem State.setReg_mem (s : State) (r : Reg) (v : Word) : (s.setReg r v).mem = s.mem := s.setCell_mem _ v
@[simp] theorem State.setReg_intReq (s : State) (r : Reg) (v : Word) : (s.setReg r v).intReq = s.intReq := s.setCell_intReq _ v
@[simp] theorem State.setReg_copIntReq (s : State) (r : Reg) (v : Word) : (s.setReg r v).copIntReq = s.copIntReq := s.setCell_copIntReq _ v
@[simp] theorem State.setReg_resetReq (s : State) (r : Reg) (v : Word) : (s.setReg r v).resetReq = s.resetReq := s.setCell_resetReq _ v
@[simp] theorem State.setReg_copEnabled (s : State) (r : Reg) (v : Word) : (s.setReg r v).copEnabled = s.copEnabled := s.setCell_copEnabled _ v
@[simp] theorem State.setReg_copLog (s : State) (r : Reg) (v : Word) : (s.setReg r v).copLog = s.copLog := s.setCell_copLog _ v
@[simp] theorem State.setReg_freeCount (s : State) (r : Reg) (v : Word) : (s.setReg r v).freeCount = s.freeCount := s.setCell_freeCount _ v
@[simp] theorem State.setReg_outsideGuarantee (s : State) (r : Reg) (v : Word) : (s.setReg r v).outsideGuarantee = s.outsideGuarantee := s.setCell_outsideGuarantee _ v
@[simp] theorem State.setReg_acc (s : State) (r : Reg) (v : Word) (j : Acc) :
    (s.setReg r v).acc j = s.acc j := s.setCell_acc _ v _
@[simp] theorem State.setReg_readByte (s : State) (r : Reg) (v : Word) (q : Word) :
    (s.setReg r v).readByte q = s.readByte q := s.setCell_readByte _ v _
@[simp] theorem State.setReg_readHalf (s : State) (r : Reg) (v : Word) (q : Word) :
    (s.setReg r v).readHalf q = s.readHalf q := s.setCell_readHalf _ v _
@[simp] theorem State.setReg_readWord (s : State) (r : Reg) (v : Word) (q : Word) :
    (s.setReg r v).readWord q = s.readWord q := s.setCell_readWord _ v _
@[simp] theorem State.setReg_c (s : State) (r : Reg) (v : Word) :
    (s.setReg r v).c = s.c := s.setCell_c _ v
@[simp] theorem State.setReg_pm (s : State) (r : Reg) (v : Word) :
    (s.setReg r v).pm = s.pm := s.setCell_pm _ v
@[simp] theorem State.setReg_sm (s : State) (r : Reg) (v : Word) :
    (s.setReg r v).sm = s.sm := s.setCell_sm _ v
@[simp] theorem State.setReg_cellOf (s : State) (r : Reg) (v : Word) (q : Reg) :
    (s.setReg r v).cellOf q = s.cellOf q := s.setCell_cellOf _ v _
@[simp] theorem State.setReg_copOn (s : State) (r : Reg) (v : Word) (q : CpNum) :
    (s.setReg r v).copOn q = s.copOn q := s.setCell_copOn _ v _

/-! ### setAcc -/

@[simp] theorem State.setAcc_gpr (s : State) (a : Acc) (v : Acc56) : (s.setAcc a v).gpr = s.gpr := by cases a <;> rfl
@[simp] theorem State.setAcc_spi (s : State) (a : Acc) (v : Acc56) : (s.setAcc a v).spi = s.spi := by cases a <;> rfl
@[simp] theorem State.setAcc_spu (s : State) (a : Acc) (v : Acc56) : (s.setAcc a v).spu = s.spu := by cases a <;> rfl
@[simp] theorem State.setAcc_pc (s : State) (a : Acc) (v : Acc56) : (s.setAcc a v).pc = s.pc := by cases a <;> rfl
@[simp] theorem State.setAcc_psw (s : State) (a : Acc) (v : Acc56) : (s.setAcc a v).psw = s.psw := by cases a <;> rfl
@[simp] theorem State.setAcc_evb (s : State) (a : Acc) (v : Acc56) : (s.setAcc a v).evb = s.evb := by cases a <;> rfl
@[simp] theorem State.setAcc_bpc (s : State) (a : Acc) (v : Acc56) : (s.setAcc a v).bpc = s.bpc := by cases a <;> rfl
@[simp] theorem State.setAcc_evbWritten (s : State) (a : Acc) (v : Acc56) : (s.setAcc a v).evbWritten = s.evbWritten := by cases a <;> rfl
@[simp] theorem State.setAcc_lock (s : State) (a : Acc) (v : Acc56) : (s.setAcc a v).lock = s.lock := by cases a <;> rfl
@[simp] theorem State.setAcc_mem (s : State) (a : Acc) (v : Acc56) : (s.setAcc a v).mem = s.mem := by cases a <;> rfl
@[simp] theorem State.setAcc_intReq (s : State) (a : Acc) (v : Acc56) : (s.setAcc a v).intReq = s.intReq := by cases a <;> rfl
@[simp] theorem State.setAcc_copIntReq (s : State) (a : Acc) (v : Acc56) : (s.setAcc a v).copIntReq = s.copIntReq := by cases a <;> rfl
@[simp] theorem State.setAcc_resetReq (s : State) (a : Acc) (v : Acc56) : (s.setAcc a v).resetReq = s.resetReq := by cases a <;> rfl
@[simp] theorem State.setAcc_copEnabled (s : State) (a : Acc) (v : Acc56) : (s.setAcc a v).copEnabled = s.copEnabled := by cases a <;> rfl
@[simp] theorem State.setAcc_copLog (s : State) (a : Acc) (v : Acc56) : (s.setAcc a v).copLog = s.copLog := by cases a <;> rfl
@[simp] theorem State.setAcc_freeCount (s : State) (a : Acc) (v : Acc56) : (s.setAcc a v).freeCount = s.freeCount := by cases a <;> rfl
@[simp] theorem State.setAcc_outsideGuarantee (s : State) (a : Acc) (v : Acc56) : (s.setAcc a v).outsideGuarantee = s.outsideGuarantee := by cases a <;> rfl
@[simp] theorem State.setAcc_cell (s : State) (a : Acc) (v : Acc56) (j : Cell) :
    (s.setAcc a v).cell j = s.cell j := by cases a <;> rfl
@[simp] theorem State.setAcc_readByte (s : State) (a : Acc) (v : Acc56) (q : Word) :
    (s.setAcc a v).readByte q = s.readByte q := by cases a <;> rfl
@[simp] theorem State.setAcc_readHalf (s : State) (a : Acc) (v : Acc56) (q : Word) :
    (s.setAcc a v).readHalf q = s.readHalf q := by cases a <;> rfl
@[simp] theorem State.setAcc_readWord (s : State) (a : Acc) (v : Acc56) (q : Word) :
    (s.setAcc a v).readWord q = s.readWord q := by cases a <;> rfl
@[simp] theorem State.setAcc_c (s : State) (a : Acc) (v : Acc56) :
    (s.setAcc a v).c = s.c := by cases a <;> rfl
@[simp] theorem State.setAcc_pm (s : State) (a : Acc) (v : Acc56) :
    (s.setAcc a v).pm = s.pm := by cases a <;> rfl
@[simp] theorem State.setAcc_sm (s : State) (a : Acc) (v : Acc56) :
    (s.setAcc a v).sm = s.sm := by cases a <;> rfl
@[simp] theorem State.setAcc_cellOf (s : State) (a : Acc) (v : Acc56) (q : Reg) :
    (s.setAcc a v).cellOf q = s.cellOf q := by cases a <;> rfl
@[simp] theorem State.setAcc_copOn (s : State) (a : Acc) (v : Acc56) (q : CpNum) :
    (s.setAcc a v).copOn q = s.copOn q := by cases a <;> rfl

/-! ### setAccInt -/

@[simp] theorem State.setAccInt_gpr (s : State) (a : Acc) (v : Int) : (s.setAccInt a v).gpr = s.gpr := s.setAcc_gpr a _
@[simp] theorem State.setAccInt_spi (s : State) (a : Acc) (v : Int) : (s.setAccInt a v).spi = s.spi := s.setAcc_spi a _
@[simp] theorem State.setAccInt_spu (s : State) (a : Acc) (v : Int) : (s.setAccInt a v).spu = s.spu := s.setAcc_spu a _
@[simp] theorem State.setAccInt_pc (s : State) (a : Acc) (v : Int) : (s.setAccInt a v).pc = s.pc := s.setAcc_pc a _
@[simp] theorem State.setAccInt_psw (s : State) (a : Acc) (v : Int) : (s.setAccInt a v).psw = s.psw := s.setAcc_psw a _
@[simp] theorem State.setAccInt_evb (s : State) (a : Acc) (v : Int) : (s.setAccInt a v).evb = s.evb := s.setAcc_evb a _
@[simp] theorem State.setAccInt_bpc (s : State) (a : Acc) (v : Int) : (s.setAccInt a v).bpc = s.bpc := s.setAcc_bpc a _
@[simp] theorem State.setAccInt_evbWritten (s : State) (a : Acc) (v : Int) : (s.setAccInt a v).evbWritten = s.evbWritten := s.setAcc_evbWritten a _
@[simp] theorem State.setAccInt_lock (s : State) (a : Acc) (v : Int) : (s.setAccInt a v).lock = s.lock := s.setAcc_lock a _
@[simp] theorem State.setAccInt_mem (s : State) (a : Acc) (v : Int) : (s.setAccInt a v).mem = s.mem := s.setAcc_mem a _
@[simp] theorem State.setAccInt_intReq (s : State) (a : Acc) (v : Int) : (s.setAccInt a v).intReq = s.intReq := s.setAcc_intReq a _
@[simp] theorem State.setAccInt_copIntReq (s : State) (a : Acc) (v : Int) : (s.setAccInt a v).copIntReq = s.copIntReq := s.setAcc_copIntReq a _
@[simp] theorem State.setAccInt_resetReq (s : State) (a : Acc) (v : Int) : (s.setAccInt a v).resetReq = s.resetReq := s.setAcc_resetReq a _
@[simp] theorem State.setAccInt_copEnabled (s : State) (a : Acc) (v : Int) : (s.setAccInt a v).copEnabled = s.copEnabled := s.setAcc_copEnabled a _
@[simp] theorem State.setAccInt_copLog (s : State) (a : Acc) (v : Int) : (s.setAccInt a v).copLog = s.copLog := s.setAcc_copLog a _
@[simp] theorem State.setAccInt_freeCount (s : State) (a : Acc) (v : Int) : (s.setAccInt a v).freeCount = s.freeCount := s.setAcc_freeCount a _
@[simp] theorem State.setAccInt_outsideGuarantee (s : State) (a : Acc) (v : Int) : (s.setAccInt a v).outsideGuarantee = s.outsideGuarantee := s.setAcc_outsideGuarantee a _
@[simp] theorem State.setAccInt_cell (s : State) (a : Acc) (v : Int) (j : Cell) :
    (s.setAccInt a v).cell j = s.cell j := s.setAcc_cell a _ _
@[simp] theorem State.setAccInt_readByte (s : State) (a : Acc) (v : Int) (q : Word) :
    (s.setAccInt a v).readByte q = s.readByte q := s.setAcc_readByte a _ _
@[simp] theorem State.setAccInt_readHalf (s : State) (a : Acc) (v : Int) (q : Word) :
    (s.setAccInt a v).readHalf q = s.readHalf q := s.setAcc_readHalf a _ _
@[simp] theorem State.setAccInt_readWord (s : State) (a : Acc) (v : Int) (q : Word) :
    (s.setAccInt a v).readWord q = s.readWord q := s.setAcc_readWord a _ _
@[simp] theorem State.setAccInt_c (s : State) (a : Acc) (v : Int) :
    (s.setAccInt a v).c = s.c := s.setAcc_c a _
@[simp] theorem State.setAccInt_pm (s : State) (a : Acc) (v : Int) :
    (s.setAccInt a v).pm = s.pm := s.setAcc_pm a _
@[simp] theorem State.setAccInt_sm (s : State) (a : Acc) (v : Int) :
    (s.setAccInt a v).sm = s.sm := s.setAcc_sm a _
@[simp] theorem State.setAccInt_cellOf (s : State) (a : Acc) (v : Int) (q : Reg) :
    (s.setAccInt a v).cellOf q = s.cellOf q := s.setAcc_cellOf a _ _
@[simp] theorem State.setAccInt_copOn (s : State) (a : Acc) (v : Int) (q : CpNum) :
    (s.setAccInt a v).copOn q = s.copOn q := s.setAcc_copOn a _ _

/-! ### setC -/

@[simp] theorem State.setC_gpr (s : State) (b : Bool) : (s.setC b).gpr = s.gpr := rfl
@[simp] theorem State.setC_spi (s : State) (b : Bool) : (s.setC b).spi = s.spi := rfl
@[simp] theorem State.setC_spu (s : State) (b : Bool) : (s.setC b).spu = s.spu := rfl
@[simp] theorem State.setC_pc (s : State) (b : Bool) : (s.setC b).pc = s.pc := rfl
@[simp] theorem State.setC_evb (s : State) (b : Bool) : (s.setC b).evb = s.evb := rfl
@[simp] theorem State.setC_bpc (s : State) (b : Bool) : (s.setC b).bpc = s.bpc := rfl
@[simp] theorem State.setC_evbWritten (s : State) (b : Bool) : (s.setC b).evbWritten = s.evbWritten := rfl
@[simp] theorem State.setC_acc0 (s : State) (b : Bool) : (s.setC b).acc0 = s.acc0 := rfl
@[simp] theorem State.setC_acc1 (s : State) (b : Bool) : (s.setC b).acc1 = s.acc1 := rfl
@[simp] theorem State.setC_lock (s : State) (b : Bool) : (s.setC b).lock = s.lock := rfl
@[simp] theorem State.setC_mem (s : State) (b : Bool) : (s.setC b).mem = s.mem := rfl
@[simp] theorem State.setC_intReq (s : State) (b : Bool) : (s.setC b).intReq = s.intReq := rfl
@[simp] theorem State.setC_copIntReq (s : State) (b : Bool) : (s.setC b).copIntReq = s.copIntReq := rfl
@[simp] theorem State.setC_resetReq (s : State) (b : Bool) : (s.setC b).resetReq = s.resetReq := rfl
@[simp] theorem State.setC_copEnabled (s : State) (b : Bool) : (s.setC b).copEnabled = s.copEnabled := rfl
@[simp] theorem State.setC_copLog (s : State) (b : Bool) : (s.setC b).copLog = s.copLog := rfl
@[simp] theorem State.setC_freeCount (s : State) (b : Bool) : (s.setC b).freeCount = s.freeCount := rfl
@[simp] theorem State.setC_outsideGuarantee (s : State) (b : Bool) : (s.setC b).outsideGuarantee = s.outsideGuarantee := rfl
@[simp] theorem State.setC_cell (s : State) (b : Bool) (j : Cell) :
    (s.setC b).cell j = s.cell j := by cases j <;> rfl
@[simp] theorem State.setC_acc (s : State) (b : Bool) (j : Acc) :
    (s.setC b).acc j = s.acc j := by cases j <;> rfl
@[simp] theorem State.setC_readByte (s : State) (b : Bool) (q : Word) :
    (s.setC b).readByte q = s.readByte q := rfl
@[simp] theorem State.setC_readHalf (s : State) (b : Bool) (q : Word) :
    (s.setC b).readHalf q = s.readHalf q := rfl
@[simp] theorem State.setC_readWord (s : State) (b : Bool) (q : Word) :
    (s.setC b).readWord q = s.readWord q := rfl
@[simp] theorem State.setC_copOn (s : State) (b : Bool) (q : CpNum) :
    (s.setC b).copOn q = s.copOn q := rfl

/-! ### goto -/

@[simp] theorem State.goto_gpr (s : State) (a : Word) : (s.goto a).gpr = s.gpr := rfl
@[simp] theorem State.goto_spi (s : State) (a : Word) : (s.goto a).spi = s.spi := rfl
@[simp] theorem State.goto_spu (s : State) (a : Word) : (s.goto a).spu = s.spu := rfl
@[simp] theorem State.goto_psw (s : State) (a : Word) : (s.goto a).psw = s.psw := rfl
@[simp] theorem State.goto_evb (s : State) (a : Word) : (s.goto a).evb = s.evb := rfl
@[simp] theorem State.goto_bpc (s : State) (a : Word) : (s.goto a).bpc = s.bpc := rfl
@[simp] theorem State.goto_evbWritten (s : State) (a : Word) : (s.goto a).evbWritten = s.evbWritten := rfl
@[simp] theorem State.goto_acc0 (s : State) (a : Word) : (s.goto a).acc0 = s.acc0 := rfl
@[simp] theorem State.goto_acc1 (s : State) (a : Word) : (s.goto a).acc1 = s.acc1 := rfl
@[simp] theorem State.goto_lock (s : State) (a : Word) : (s.goto a).lock = s.lock := rfl
@[simp] theorem State.goto_mem (s : State) (a : Word) : (s.goto a).mem = s.mem := rfl
@[simp] theorem State.goto_intReq (s : State) (a : Word) : (s.goto a).intReq = s.intReq := rfl
@[simp] theorem State.goto_copIntReq (s : State) (a : Word) : (s.goto a).copIntReq = s.copIntReq := rfl
@[simp] theorem State.goto_resetReq (s : State) (a : Word) : (s.goto a).resetReq = s.resetReq := rfl
@[simp] theorem State.goto_copEnabled (s : State) (a : Word) : (s.goto a).copEnabled = s.copEnabled := rfl
@[simp] theorem State.goto_copLog (s : State) (a : Word) : (s.goto a).copLog = s.copLog := rfl
@[simp] theorem State.goto_freeCount (s : State) (a : Word) : (s.goto a).freeCount = s.freeCount := rfl
@[simp] theorem State.goto_outsideGuarantee (s : State) (a : Word) : (s.goto a).outsideGuarantee = s.outsideGuarantee := rfl
@[simp] theorem State.goto_cell (s : State) (a : Word) (j : Cell) :
    (s.goto a).cell j = s.cell j := by cases j <;> rfl
@[simp] theorem State.goto_acc (s : State) (a : Word) (j : Acc) :
    (s.goto a).acc j = s.acc j := by cases j <;> rfl
@[simp] theorem State.goto_readByte (s : State) (a : Word) (q : Word) :
    (s.goto a).readByte q = s.readByte q := rfl
@[simp] theorem State.goto_readHalf (s : State) (a : Word) (q : Word) :
    (s.goto a).readHalf q = s.readHalf q := rfl
@[simp] theorem State.goto_readWord (s : State) (a : Word) (q : Word) :
    (s.goto a).readWord q = s.readWord q := rfl
@[simp] theorem State.goto_c (s : State) (a : Word) :
    (s.goto a).c = s.c := rfl
@[simp] theorem State.goto_pm (s : State) (a : Word) :
    (s.goto a).pm = s.pm := rfl
@[simp] theorem State.goto_sm (s : State) (a : Word) :
    (s.goto a).sm = s.sm := rfl
@[simp] theorem State.goto_cellOf (s : State) (a : Word) (q : Reg) :
    (s.goto a).cellOf q = s.cellOf q := rfl
@[simp] theorem State.goto_copOn (s : State) (a : Word) (q : CpNum) :
    (s.goto a).copOn q = s.copOn q := rfl

/-! ### useFree -/

@[simp] theorem State.useFree_gpr (s : State) (k : Nat) : (s.useFree k).gpr = s.gpr := rfl
@[simp] theorem State.useFree_spi (s : State) (k : Nat) : (s.useFree k).spi = s.spi := rfl
@[simp] theorem State.useFree_spu (s : State) (k : Nat) : (s.useFree k).spu = s.spu := rfl
@[simp] theorem State.useFree_pc (s : State) (k : Nat) : (s.useFree k).pc = s.pc := rfl
@[simp] theorem State.useFree_psw (s : State) (k : Nat) : (s.useFree k).psw = s.psw := rfl
@[simp] theorem State.useFree_evb (s : State) (k : Nat) : (s.useFree k).evb = s.evb := rfl
@[simp] theorem State.useFree_bpc (s : State) (k : Nat) : (s.useFree k).bpc = s.bpc := rfl
@[simp] theorem State.useFree_evbWritten (s : State) (k : Nat) : (s.useFree k).evbWritten = s.evbWritten := rfl
@[simp] theorem State.useFree_acc0 (s : State) (k : Nat) : (s.useFree k).acc0 = s.acc0 := rfl
@[simp] theorem State.useFree_acc1 (s : State) (k : Nat) : (s.useFree k).acc1 = s.acc1 := rfl
@[simp] theorem State.useFree_lock (s : State) (k : Nat) : (s.useFree k).lock = s.lock := rfl
@[simp] theorem State.useFree_mem (s : State) (k : Nat) : (s.useFree k).mem = s.mem := rfl
@[simp] theorem State.useFree_intReq (s : State) (k : Nat) : (s.useFree k).intReq = s.intReq := rfl
@[simp] theorem State.useFree_copIntReq (s : State) (k : Nat) : (s.useFree k).copIntReq = s.copIntReq := rfl
@[simp] theorem State.useFree_resetReq (s : State) (k : Nat) : (s.useFree k).resetReq = s.resetReq := rfl
@[simp] theorem State.useFree_copEnabled (s : State) (k : Nat) : (s.useFree k).copEnabled = s.copEnabled := rfl
@[simp] theorem State.useFree_copLog (s : State) (k : Nat) : (s.useFree k).copLog = s.copLog := rfl
@[simp] theorem State.useFree_outsideGuarantee (s : State) (k : Nat) : (s.useFree k).outsideGuarantee = s.outsideGuarantee := rfl
@[simp] theorem State.useFree_cell (s : State) (k : Nat) (j : Cell) :
    (s.useFree k).cell j = s.cell j := by cases j <;> rfl
@[simp] theorem State.useFree_acc (s : State) (k : Nat) (j : Acc) :
    (s.useFree k).acc j = s.acc j := by cases j <;> rfl
@[simp] theorem State.useFree_readByte (s : State) (k : Nat) (q : Word) :
    (s.useFree k).readByte q = s.readByte q := rfl
@[simp] theorem State.useFree_readHalf (s : State) (k : Nat) (q : Word) :
    (s.useFree k).readHalf q = s.readHalf q := rfl
@[simp] theorem State.useFree_readWord (s : State) (k : Nat) (q : Word) :
    (s.useFree k).readWord q = s.readWord q := rfl
@[simp] theorem State.useFree_c (s : State) (k : Nat) :
    (s.useFree k).c = s.c := rfl
@[simp] theorem State.useFree_pm (s : State) (k : Nat) :
    (s.useFree k).pm = s.pm := rfl
@[simp] theorem State.useFree_sm (s : State) (k : Nat) :
    (s.useFree k).sm = s.sm := rfl
@[simp] theorem State.useFree_cellOf (s : State) (k : Nat) (q : Reg) :
    (s.useFree k).cellOf q = s.cellOf q := rfl
@[simp] theorem State.useFree_copOn (s : State) (k : Nat) (q : CpNum) :
    (s.useFree k).copOn q = s.copOn q := rfl

/-! ### writeByte -/

@[simp] theorem State.writeByte_gpr (s : State) (a : Word) (v : Byte) : (s.writeByte a v).gpr = s.gpr := rfl
@[simp] theorem State.writeByte_spi (s : State) (a : Word) (v : Byte) : (s.writeByte a v).spi = s.spi := rfl
@[simp] theorem State.writeByte_spu (s : State) (a : Word) (v : Byte) : (s.writeByte a v).spu = s.spu := rfl
@[simp] theorem State.writeByte_pc (s : State) (a : Word) (v : Byte) : (s.writeByte a v).pc = s.pc := rfl
@[simp] theorem State.writeByte_psw (s : State) (a : Word) (v : Byte) : (s.writeByte a v).psw = s.psw := rfl
@[simp] theorem State.writeByte_evb (s : State) (a : Word) (v : Byte) : (s.writeByte a v).evb = s.evb := rfl
@[simp] theorem State.writeByte_bpc (s : State) (a : Word) (v : Byte) : (s.writeByte a v).bpc = s.bpc := rfl
@[simp] theorem State.writeByte_evbWritten (s : State) (a : Word) (v : Byte) : (s.writeByte a v).evbWritten = s.evbWritten := rfl
@[simp] theorem State.writeByte_acc0 (s : State) (a : Word) (v : Byte) : (s.writeByte a v).acc0 = s.acc0 := rfl
@[simp] theorem State.writeByte_acc1 (s : State) (a : Word) (v : Byte) : (s.writeByte a v).acc1 = s.acc1 := rfl
@[simp] theorem State.writeByte_lock (s : State) (a : Word) (v : Byte) : (s.writeByte a v).lock = s.lock := rfl
@[simp] theorem State.writeByte_intReq (s : State) (a : Word) (v : Byte) : (s.writeByte a v).intReq = s.intReq := rfl
@[simp] theorem State.writeByte_copIntReq (s : State) (a : Word) (v : Byte) : (s.writeByte a v).copIntReq = s.copIntReq := rfl
@[simp] theorem State.writeByte_resetReq (s : State) (a : Word) (v : Byte) : (s.writeByte a v).resetReq = s.resetReq := rfl
@[simp] theorem State.writeByte_copEnabled (s : State) (a : Word) (v : Byte) : (s.writeByte a v).copEnabled = s.copEnabled := rfl
@[simp] theorem State.writeByte_copLog (s : State) (a : Word) (v : Byte) : (s.writeByte a v).copLog = s.copLog := rfl
@[simp] theorem State.writeByte_freeCount (s : State) (a : Word) (v : Byte) : (s.writeByte a v).freeCount = s.freeCount := rfl
@[simp] theorem State.writeByte_outsideGuarantee (s : State) (a : Word) (v : Byte) : (s.writeByte a v).outsideGuarantee = s.outsideGuarantee := rfl
@[simp] theorem State.writeByte_cell (s : State) (a : Word) (v : Byte) (j : Cell) :
    (s.writeByte a v).cell j = s.cell j := by cases j <;> rfl
@[simp] theorem State.writeByte_acc (s : State) (a : Word) (v : Byte) (j : Acc) :
    (s.writeByte a v).acc j = s.acc j := by cases j <;> rfl
@[simp] theorem State.writeByte_c (s : State) (a : Word) (v : Byte) :
    (s.writeByte a v).c = s.c := rfl
@[simp] theorem State.writeByte_pm (s : State) (a : Word) (v : Byte) :
    (s.writeByte a v).pm = s.pm := rfl
@[simp] theorem State.writeByte_sm (s : State) (a : Word) (v : Byte) :
    (s.writeByte a v).sm = s.sm := rfl
@[simp] theorem State.writeByte_cellOf (s : State) (a : Word) (v : Byte) (q : Reg) :
    (s.writeByte a v).cellOf q = s.cellOf q := rfl
@[simp] theorem State.writeByte_copOn (s : State) (a : Word) (v : Byte) (q : CpNum) :
    (s.writeByte a v).copOn q = s.copOn q := rfl

/-! ### writeHalf -/

@[simp] theorem State.writeHalf_gpr (s : State) (a : Word) (v : Half) : (s.writeHalf a v).gpr = s.gpr := by simp only [State.writeHalf, State.writeByte_gpr]
@[simp] theorem State.writeHalf_spi (s : State) (a : Word) (v : Half) : (s.writeHalf a v).spi = s.spi := by simp only [State.writeHalf, State.writeByte_spi]
@[simp] theorem State.writeHalf_spu (s : State) (a : Word) (v : Half) : (s.writeHalf a v).spu = s.spu := by simp only [State.writeHalf, State.writeByte_spu]
@[simp] theorem State.writeHalf_pc (s : State) (a : Word) (v : Half) : (s.writeHalf a v).pc = s.pc := by simp only [State.writeHalf, State.writeByte_pc]
@[simp] theorem State.writeHalf_psw (s : State) (a : Word) (v : Half) : (s.writeHalf a v).psw = s.psw := by simp only [State.writeHalf, State.writeByte_psw]
@[simp] theorem State.writeHalf_evb (s : State) (a : Word) (v : Half) : (s.writeHalf a v).evb = s.evb := by simp only [State.writeHalf, State.writeByte_evb]
@[simp] theorem State.writeHalf_bpc (s : State) (a : Word) (v : Half) : (s.writeHalf a v).bpc = s.bpc := by simp only [State.writeHalf, State.writeByte_bpc]
@[simp] theorem State.writeHalf_evbWritten (s : State) (a : Word) (v : Half) : (s.writeHalf a v).evbWritten = s.evbWritten := by simp only [State.writeHalf, State.writeByte_evbWritten]
@[simp] theorem State.writeHalf_acc0 (s : State) (a : Word) (v : Half) : (s.writeHalf a v).acc0 = s.acc0 := by simp only [State.writeHalf, State.writeByte_acc0]
@[simp] theorem State.writeHalf_acc1 (s : State) (a : Word) (v : Half) : (s.writeHalf a v).acc1 = s.acc1 := by simp only [State.writeHalf, State.writeByte_acc1]
@[simp] theorem State.writeHalf_lock (s : State) (a : Word) (v : Half) : (s.writeHalf a v).lock = s.lock := by simp only [State.writeHalf, State.writeByte_lock]
@[simp] theorem State.writeHalf_intReq (s : State) (a : Word) (v : Half) : (s.writeHalf a v).intReq = s.intReq := by simp only [State.writeHalf, State.writeByte_intReq]
@[simp] theorem State.writeHalf_copIntReq (s : State) (a : Word) (v : Half) : (s.writeHalf a v).copIntReq = s.copIntReq := by simp only [State.writeHalf, State.writeByte_copIntReq]
@[simp] theorem State.writeHalf_resetReq (s : State) (a : Word) (v : Half) : (s.writeHalf a v).resetReq = s.resetReq := by simp only [State.writeHalf, State.writeByte_resetReq]
@[simp] theorem State.writeHalf_copEnabled (s : State) (a : Word) (v : Half) : (s.writeHalf a v).copEnabled = s.copEnabled := by simp only [State.writeHalf, State.writeByte_copEnabled]
@[simp] theorem State.writeHalf_copLog (s : State) (a : Word) (v : Half) : (s.writeHalf a v).copLog = s.copLog := by simp only [State.writeHalf, State.writeByte_copLog]
@[simp] theorem State.writeHalf_freeCount (s : State) (a : Word) (v : Half) : (s.writeHalf a v).freeCount = s.freeCount := by simp only [State.writeHalf, State.writeByte_freeCount]
@[simp] theorem State.writeHalf_outsideGuarantee (s : State) (a : Word) (v : Half) : (s.writeHalf a v).outsideGuarantee = s.outsideGuarantee := by simp only [State.writeHalf, State.writeByte_outsideGuarantee]
@[simp] theorem State.writeHalf_cell (s : State) (a : Word) (v : Half) (j : Cell) :
    (s.writeHalf a v).cell j = s.cell j := by simp only [State.writeHalf, State.writeByte_cell]
@[simp] theorem State.writeHalf_acc (s : State) (a : Word) (v : Half) (j : Acc) :
    (s.writeHalf a v).acc j = s.acc j := by simp only [State.writeHalf, State.writeByte_acc]
@[simp] theorem State.writeHalf_c (s : State) (a : Word) (v : Half) :
    (s.writeHalf a v).c = s.c := by simp only [State.writeHalf, State.writeByte_c]
@[simp] theorem State.writeHalf_pm (s : State) (a : Word) (v : Half) :
    (s.writeHalf a v).pm = s.pm := by simp only [State.writeHalf, State.writeByte_pm]
@[simp] theorem State.writeHalf_sm (s : State) (a : Word) (v : Half) :
    (s.writeHalf a v).sm = s.sm := by simp only [State.writeHalf, State.writeByte_sm]
@[simp] theorem State.writeHalf_cellOf (s : State) (a : Word) (v : Half) (q : Reg) :
    (s.writeHalf a v).cellOf q = s.cellOf q := by simp only [State.writeHalf, State.writeByte_cellOf]
@[simp] theorem State.writeHalf_copOn (s : State) (a : Word) (v : Half) (q : CpNum) :
    (s.writeHalf a v).copOn q = s.copOn q := by simp only [State.writeHalf, State.writeByte_copOn]

/-! ### writeWord -/

@[simp] theorem State.writeWord_gpr (s : State) (a : Word) (v : Word) : (s.writeWord a v).gpr = s.gpr := by simp only [State.writeWord, State.writeByte_gpr]
@[simp] theorem State.writeWord_spi (s : State) (a : Word) (v : Word) : (s.writeWord a v).spi = s.spi := by simp only [State.writeWord, State.writeByte_spi]
@[simp] theorem State.writeWord_spu (s : State) (a : Word) (v : Word) : (s.writeWord a v).spu = s.spu := by simp only [State.writeWord, State.writeByte_spu]
@[simp] theorem State.writeWord_pc (s : State) (a : Word) (v : Word) : (s.writeWord a v).pc = s.pc := by simp only [State.writeWord, State.writeByte_pc]
@[simp] theorem State.writeWord_psw (s : State) (a : Word) (v : Word) : (s.writeWord a v).psw = s.psw := by simp only [State.writeWord, State.writeByte_psw]
@[simp] theorem State.writeWord_evb (s : State) (a : Word) (v : Word) : (s.writeWord a v).evb = s.evb := by simp only [State.writeWord, State.writeByte_evb]
@[simp] theorem State.writeWord_bpc (s : State) (a : Word) (v : Word) : (s.writeWord a v).bpc = s.bpc := by simp only [State.writeWord, State.writeByte_bpc]
@[simp] theorem State.writeWord_evbWritten (s : State) (a : Word) (v : Word) : (s.writeWord a v).evbWritten = s.evbWritten := by simp only [State.writeWord, State.writeByte_evbWritten]
@[simp] theorem State.writeWord_acc0 (s : State) (a : Word) (v : Word) : (s.writeWord a v).acc0 = s.acc0 := by simp only [State.writeWord, State.writeByte_acc0]
@[simp] theorem State.writeWord_acc1 (s : State) (a : Word) (v : Word) : (s.writeWord a v).acc1 = s.acc1 := by simp only [State.writeWord, State.writeByte_acc1]
@[simp] theorem State.writeWord_lock (s : State) (a : Word) (v : Word) : (s.writeWord a v).lock = s.lock := by simp only [State.writeWord, State.writeByte_lock]
@[simp] theorem State.writeWord_intReq (s : State) (a : Word) (v : Word) : (s.writeWord a v).intReq = s.intReq := by simp only [State.writeWord, State.writeByte_intReq]
@[simp] theorem State.writeWord_copIntReq (s : State) (a : Word) (v : Word) : (s.writeWord a v).copIntReq = s.copIntReq := by simp only [State.writeWord, State.writeByte_copIntReq]
@[simp] theorem State.writeWord_resetReq (s : State) (a : Word) (v : Word) : (s.writeWord a v).resetReq = s.resetReq := by simp only [State.writeWord, State.writeByte_resetReq]
@[simp] theorem State.writeWord_copEnabled (s : State) (a : Word) (v : Word) : (s.writeWord a v).copEnabled = s.copEnabled := by simp only [State.writeWord, State.writeByte_copEnabled]
@[simp] theorem State.writeWord_copLog (s : State) (a : Word) (v : Word) : (s.writeWord a v).copLog = s.copLog := by simp only [State.writeWord, State.writeByte_copLog]
@[simp] theorem State.writeWord_freeCount (s : State) (a : Word) (v : Word) : (s.writeWord a v).freeCount = s.freeCount := by simp only [State.writeWord, State.writeByte_freeCount]
@[simp] theorem State.writeWord_outsideGuarantee (s : State) (a : Word) (v : Word) : (s.writeWord a v).outsideGuarantee = s.outsideGuarantee := by simp only [State.writeWord, State.writeByte_outsideGuarantee]
@[simp] theorem State.writeWord_cell (s : State) (a : Word) (v : Word) (j : Cell) :
    (s.writeWord a v).cell j = s.cell j := by simp only [State.writeWord, State.writeByte_cell]
@[simp] theorem State.writeWord_acc (s : State) (a : Word) (v : Word) (j : Acc) :
    (s.writeWord a v).acc j = s.acc j := by simp only [State.writeWord, State.writeByte_acc]
@[simp] theorem State.writeWord_c (s : State) (a : Word) (v : Word) :
    (s.writeWord a v).c = s.c := by simp only [State.writeWord, State.writeByte_c]
@[simp] theorem State.writeWord_pm (s : State) (a : Word) (v : Word) :
    (s.writeWord a v).pm = s.pm := by simp only [State.writeWord, State.writeByte_pm]
@[simp] theorem State.writeWord_sm (s : State) (a : Word) (v : Word) :
    (s.writeWord a v).sm = s.sm := by simp only [State.writeWord, State.writeByte_sm]
@[simp] theorem State.writeWord_cellOf (s : State) (a : Word) (v : Word) (q : Reg) :
    (s.writeWord a v).cellOf q = s.cellOf q := by simp only [State.writeWord, State.writeByte_cellOf]
@[simp] theorem State.writeWord_copOn (s : State) (a : Word) (v : Word) (q : CpNum) :
    (s.writeWord a v).copOn q = s.copOn q := by simp only [State.writeWord, State.writeByte_copOn]

/-! ### copDo -/

@[simp] theorem State.copDo_gpr (s : State) (op : CopOp) : (s.copDo op).gpr = s.gpr := rfl
@[simp] theorem State.copDo_spi (s : State) (op : CopOp) : (s.copDo op).spi = s.spi := rfl
@[simp] theorem State.copDo_spu (s : State) (op : CopOp) : (s.copDo op).spu = s.spu := rfl
@[simp] theorem State.copDo_pc (s : State) (op : CopOp) : (s.copDo op).pc = s.pc := rfl
@[simp] theorem State.copDo_psw (s : State) (op : CopOp) : (s.copDo op).psw = s.psw := rfl
@[simp] theorem State.copDo_evb (s : State) (op : CopOp) : (s.copDo op).evb = s.evb := rfl
@[simp] theorem State.copDo_bpc (s : State) (op : CopOp) : (s.copDo op).bpc = s.bpc := rfl
@[simp] theorem State.copDo_evbWritten (s : State) (op : CopOp) : (s.copDo op).evbWritten = s.evbWritten := rfl
@[simp] theorem State.copDo_acc0 (s : State) (op : CopOp) : (s.copDo op).acc0 = s.acc0 := rfl
@[simp] theorem State.copDo_acc1 (s : State) (op : CopOp) : (s.copDo op).acc1 = s.acc1 := rfl
@[simp] theorem State.copDo_lock (s : State) (op : CopOp) : (s.copDo op).lock = s.lock := rfl
@[simp] theorem State.copDo_mem (s : State) (op : CopOp) : (s.copDo op).mem = s.mem := rfl
@[simp] theorem State.copDo_intReq (s : State) (op : CopOp) : (s.copDo op).intReq = s.intReq := rfl
@[simp] theorem State.copDo_copIntReq (s : State) (op : CopOp) : (s.copDo op).copIntReq = s.copIntReq := rfl
@[simp] theorem State.copDo_resetReq (s : State) (op : CopOp) : (s.copDo op).resetReq = s.resetReq := rfl
@[simp] theorem State.copDo_copEnabled (s : State) (op : CopOp) : (s.copDo op).copEnabled = s.copEnabled := rfl
@[simp] theorem State.copDo_freeCount (s : State) (op : CopOp) : (s.copDo op).freeCount = s.freeCount := rfl
@[simp] theorem State.copDo_outsideGuarantee (s : State) (op : CopOp) : (s.copDo op).outsideGuarantee = s.outsideGuarantee := rfl
@[simp] theorem State.copDo_cell (s : State) (op : CopOp) (j : Cell) :
    (s.copDo op).cell j = s.cell j := by cases j <;> rfl
@[simp] theorem State.copDo_acc (s : State) (op : CopOp) (j : Acc) :
    (s.copDo op).acc j = s.acc j := by cases j <;> rfl
@[simp] theorem State.copDo_readByte (s : State) (op : CopOp) (q : Word) :
    (s.copDo op).readByte q = s.readByte q := rfl
@[simp] theorem State.copDo_readHalf (s : State) (op : CopOp) (q : Word) :
    (s.copDo op).readHalf q = s.readHalf q := rfl
@[simp] theorem State.copDo_readWord (s : State) (op : CopOp) (q : Word) :
    (s.copDo op).readWord q = s.readWord q := rfl
@[simp] theorem State.copDo_c (s : State) (op : CopOp) :
    (s.copDo op).c = s.c := rfl
@[simp] theorem State.copDo_pm (s : State) (op : CopOp) :
    (s.copDo op).pm = s.pm := rfl
@[simp] theorem State.copDo_sm (s : State) (op : CopOp) :
    (s.copDo op).sm = s.sm := rfl
@[simp] theorem State.copDo_cellOf (s : State) (op : CopOp) (q : Reg) :
    (s.copDo op).cellOf q = s.cellOf q := rfl
@[simp] theorem State.copDo_copOn (s : State) (op : CopOp) (q : CpNum) :
    (s.copDo op).copOn q = s.copOn q := rfl

/-! ### markPm -/

@[simp] theorem State.markPm_gpr (s : State) (b : Bool) : (s.markPm b).gpr = s.gpr := rfl
@[simp] theorem State.markPm_spi (s : State) (b : Bool) : (s.markPm b).spi = s.spi := rfl
@[simp] theorem State.markPm_spu (s : State) (b : Bool) : (s.markPm b).spu = s.spu := rfl
@[simp] theorem State.markPm_pc (s : State) (b : Bool) : (s.markPm b).pc = s.pc := rfl
@[simp] theorem State.markPm_psw (s : State) (b : Bool) : (s.markPm b).psw = s.psw := rfl
@[simp] theorem State.markPm_evb (s : State) (b : Bool) : (s.markPm b).evb = s.evb := rfl
@[simp] theorem State.markPm_bpc (s : State) (b : Bool) : (s.markPm b).bpc = s.bpc := rfl
@[simp] theorem State.markPm_evbWritten (s : State) (b : Bool) : (s.markPm b).evbWritten = s.evbWritten := rfl
@[simp] theorem State.markPm_acc0 (s : State) (b : Bool) : (s.markPm b).acc0 = s.acc0 := rfl
@[simp] theorem State.markPm_acc1 (s : State) (b : Bool) : (s.markPm b).acc1 = s.acc1 := rfl
@[simp] theorem State.markPm_lock (s : State) (b : Bool) : (s.markPm b).lock = s.lock := rfl
@[simp] theorem State.markPm_mem (s : State) (b : Bool) : (s.markPm b).mem = s.mem := rfl
@[simp] theorem State.markPm_intReq (s : State) (b : Bool) : (s.markPm b).intReq = s.intReq := rfl
@[simp] theorem State.markPm_copIntReq (s : State) (b : Bool) : (s.markPm b).copIntReq = s.copIntReq := rfl
@[simp] theorem State.markPm_resetReq (s : State) (b : Bool) : (s.markPm b).resetReq = s.resetReq := rfl
@[simp] theorem State.markPm_copEnabled (s : State) (b : Bool) : (s.markPm b).copEnabled = s.copEnabled := rfl
@[simp] theorem State.markPm_copLog (s : State) (b : Bool) : (s.markPm b).copLog = s.copLog := rfl
@[simp] theorem State.markPm_freeCount (s : State) (b : Bool) : (s.markPm b).freeCount = s.freeCount := rfl
@[simp] theorem State.markPm_cell (s : State) (b : Bool) (j : Cell) :
    (s.markPm b).cell j = s.cell j := by cases j <;> rfl
@[simp] theorem State.markPm_acc (s : State) (b : Bool) (j : Acc) :
    (s.markPm b).acc j = s.acc j := by cases j <;> rfl
@[simp] theorem State.markPm_readByte (s : State) (b : Bool) (q : Word) :
    (s.markPm b).readByte q = s.readByte q := rfl
@[simp] theorem State.markPm_readHalf (s : State) (b : Bool) (q : Word) :
    (s.markPm b).readHalf q = s.readHalf q := rfl
@[simp] theorem State.markPm_readWord (s : State) (b : Bool) (q : Word) :
    (s.markPm b).readWord q = s.readWord q := rfl
@[simp] theorem State.markPm_c (s : State) (b : Bool) :
    (s.markPm b).c = s.c := rfl
@[simp] theorem State.markPm_pm (s : State) (b : Bool) :
    (s.markPm b).pm = s.pm := rfl
@[simp] theorem State.markPm_sm (s : State) (b : Bool) :
    (s.markPm b).sm = s.sm := rfl
@[simp] theorem State.markPm_cellOf (s : State) (b : Bool) (q : Reg) :
    (s.markPm b).cellOf q = s.cellOf q := rfl
@[simp] theorem State.markPm_copOn (s : State) (b : Bool) (q : CpNum) :
    (s.markPm b).copOn q = s.copOn q := rfl

/-! ### enter -/

@[simp] theorem State.enter_gpr (s : State) (e : Event) (p : Word) : (s.enter e p).gpr = s.gpr := rfl
@[simp] theorem State.enter_spi (s : State) (e : Event) (p : Word) : (s.enter e p).spi = s.spi := rfl
@[simp] theorem State.enter_spu (s : State) (e : Event) (p : Word) : (s.enter e p).spu = s.spu := rfl
@[simp] theorem State.enter_evb (s : State) (e : Event) (p : Word) : (s.enter e p).evb = s.evb := rfl
@[simp] theorem State.enter_evbWritten (s : State) (e : Event) (p : Word) : (s.enter e p).evbWritten = s.evbWritten := rfl
@[simp] theorem State.enter_acc0 (s : State) (e : Event) (p : Word) : (s.enter e p).acc0 = s.acc0 := rfl
@[simp] theorem State.enter_acc1 (s : State) (e : Event) (p : Word) : (s.enter e p).acc1 = s.acc1 := rfl
@[simp] theorem State.enter_lock (s : State) (e : Event) (p : Word) : (s.enter e p).lock = s.lock := rfl
@[simp] theorem State.enter_mem (s : State) (e : Event) (p : Word) : (s.enter e p).mem = s.mem := rfl
@[simp] theorem State.enter_intReq (s : State) (e : Event) (p : Word) : (s.enter e p).intReq = s.intReq := rfl
@[simp] theorem State.enter_copIntReq (s : State) (e : Event) (p : Word) : (s.enter e p).copIntReq = s.copIntReq := rfl
@[simp] theorem State.enter_resetReq (s : State) (e : Event) (p : Word) : (s.enter e p).resetReq = s.resetReq := rfl
@[simp] theorem State.enter_copEnabled (s : State) (e : Event) (p : Word) : (s.enter e p).copEnabled = s.copEnabled := rfl
@[simp] theorem State.enter_copLog (s : State) (e : Event) (p : Word) : (s.enter e p).copLog = s.copLog := rfl
@[simp] theorem State.enter_freeCount (s : State) (e : Event) (p : Word) : (s.enter e p).freeCount = s.freeCount := rfl
@[simp] theorem State.enter_outsideGuarantee (s : State) (e : Event) (p : Word) : (s.enter e p).outsideGuarantee = s.outsideGuarantee := rfl
@[simp] theorem State.enter_cell (s : State) (e : Event) (p : Word) (j : Cell) :
    (s.enter e p).cell j = s.cell j := by cases j <;> rfl
@[simp] theorem State.enter_acc (s : State) (e : Event) (p : Word) (j : Acc) :
    (s.enter e p).acc j = s.acc j := by cases j <;> rfl
@[simp] theorem State.enter_readByte (s : State) (e : Event) (p : Word) (q : Word) :
    (s.enter e p).readByte q = s.readByte q := rfl
@[simp] theorem State.enter_readHalf (s : State) (e : Event) (p : Word) (q : Word) :
    (s.enter e p).readHalf q = s.readHalf q := rfl
@[simp] theorem State.enter_readWord (s : State) (e : Event) (p : Word) (q : Word) :
    (s.enter e p).readWord q = s.readWord q := rfl
@[simp] theorem State.enter_copOn (s : State) (e : Event) (p : Word) (q : CpNum) :
    (s.enter e p).copOn q = s.copOn q := rfl

/-! ### eitReturn -/

@[simp] theorem State.eitReturn_gpr (s : State) : (s.eitReturn).gpr = s.gpr := rfl
@[simp] theorem State.eitReturn_spi (s : State) : (s.eitReturn).spi = s.spi := rfl
@[simp] theorem State.eitReturn_spu (s : State) : (s.eitReturn).spu = s.spu := rfl
@[simp] theorem State.eitReturn_evb (s : State) : (s.eitReturn).evb = s.evb := rfl
@[simp] theorem State.eitReturn_bpc (s : State) : (s.eitReturn).bpc = s.bpc := rfl
@[simp] theorem State.eitReturn_evbWritten (s : State) : (s.eitReturn).evbWritten = s.evbWritten := rfl
@[simp] theorem State.eitReturn_acc0 (s : State) : (s.eitReturn).acc0 = s.acc0 := rfl
@[simp] theorem State.eitReturn_acc1 (s : State) : (s.eitReturn).acc1 = s.acc1 := rfl
@[simp] theorem State.eitReturn_lock (s : State) : (s.eitReturn).lock = s.lock := rfl
@[simp] theorem State.eitReturn_mem (s : State) : (s.eitReturn).mem = s.mem := rfl
@[simp] theorem State.eitReturn_intReq (s : State) : (s.eitReturn).intReq = s.intReq := rfl
@[simp] theorem State.eitReturn_copIntReq (s : State) : (s.eitReturn).copIntReq = s.copIntReq := rfl
@[simp] theorem State.eitReturn_resetReq (s : State) : (s.eitReturn).resetReq = s.resetReq := rfl
@[simp] theorem State.eitReturn_copEnabled (s : State) : (s.eitReturn).copEnabled = s.copEnabled := rfl
@[simp] theorem State.eitReturn_copLog (s : State) : (s.eitReturn).copLog = s.copLog := rfl
@[simp] theorem State.eitReturn_freeCount (s : State) : (s.eitReturn).freeCount = s.freeCount := rfl
@[simp] theorem State.eitReturn_outsideGuarantee (s : State) : (s.eitReturn).outsideGuarantee = s.outsideGuarantee := rfl
@[simp] theorem State.eitReturn_cell (s : State) (j : Cell) :
    (s.eitReturn).cell j = s.cell j := by cases j <;> rfl
@[simp] theorem State.eitReturn_acc (s : State) (j : Acc) :
    (s.eitReturn).acc j = s.acc j := by cases j <;> rfl
@[simp] theorem State.eitReturn_readByte (s : State) (q : Word) :
    (s.eitReturn).readByte q = s.readByte q := rfl
@[simp] theorem State.eitReturn_readHalf (s : State) (q : Word) :
    (s.eitReturn).readHalf q = s.readHalf q := rfl
@[simp] theorem State.eitReturn_readWord (s : State) (q : Word) :
    (s.eitReturn).readWord q = s.readWord q := rfl
@[simp] theorem State.eitReturn_copOn (s : State) (q : CpNum) :
    (s.eitReturn).copOn q = s.copOn q := rfl

/-! ### What an accessor reads after the update of what it reads -/

@[simp] theorem State.setCell_cell (s : State) (k j : Cell) (v : Word) :
    (s.setCell k v).cell j = if j = k then v else s.cell j := by
  cases k <;> cases j <;> simp [State.setCell, State.cell, Vector.getElem_set, Fin.ext_iff, eq_comm]

theorem State.setReg_cell (s : State) (r : Reg) (j : Cell) (v : Word) :
    (s.setReg r v).cell j = if j = s.cellOf r then v else s.cell j := by simp [State.setReg]

theorem State.setReg_cell_same (s : State) (r : Reg) (v : Word) : (s.setReg r v).cell (s.cellOf r) = v := by
  simp [State.setReg]

@[simp] theorem State.setReg_reg_same (s : State) (r : Reg) (v : Word) : (s.setReg r v).reg r = v := by
  simp [State.reg, State.setReg]

@[simp] theorem State.setAcc_acc (s : State) (a j : Acc) (v : Acc56) :
    (s.setAcc a v).acc j = if j = a then v else s.acc j := by
  cases a <;> cases j <;> simp [State.setAcc, State.acc]

@[simp] theorem State.setAccInt_acc (s : State) (a j : Acc) (v : Int) :
    (s.setAccInt a v).acc j = if j = a then BitVec.ofInt 56 v else s.acc j := by simp [State.setAccInt]

@[simp] theorem State.goto_pc (s : State) (a : Word) : (s.goto a).pc = a := rfl

@[simp] theorem State.useFree_freeCount (s : State) (k : Nat) : (s.useFree k).freeCount = s.freeCount + k := rfl

@[simp] theorem State.copDo_copLog (s : State) (op : CopOp) : (s.copDo op).copLog = op :: s.copLog := rfl

theorem State.setC_psw (s : State) (b : Bool) :
    (s.setC b).psw = (s.psw &&& 0xFFFFFFFE) ||| (if b then 1 else 0) := rfl

@[simp] theorem State.setC_c (s : State) (b : Bool) : (s.setC b).c = b := by
  cases b <;> simp [State.setC, State.c]

@[simp] theorem State.setC_pm (s : State) (b : Bool) : (s.setC b).pm = s.pm := by
  cases b <;> simp [State.setC, State.pm]

@[simp] theorem State.setC_sm (s : State) (b : Bool) : (s.setC b).sm = s.sm := by
  cases b <;> simp [State.setC, State.sm]

@[simp] theorem State.setC_cellOf (s : State) (b : Bool) (r : Reg) : (s.setC b).cellOf r = s.cellOf r := by
  simp [State.cellOf]

/-- Every bit of PSW after a write of C. -/
theorem State.setC_getLsbD (s : State) (b : Bool) (n : Nat) :
    (s.setC b).psw.getLsbD n = if n = 0 then b else s.psw.getLsbD n := by
  have m : ∀ k : Fin 32, (0xFFFFFFFE : Word).getLsbD k.val = !decide (k.val = 0) := by decide
  by_cases hn : n < 32
  · have mn := m ⟨n, hn⟩
    simp only [State.setC, BitVec.getLsbD_or, BitVec.getLsbD_and, mn]
    by_cases h0 : n = 0
    · subst h0; cases b <;> simp
    · cases b <;> simp [h0]
  · have : n ≠ 0 := by omega
    rw [BitVec.getLsbD_of_ge _ _ (by omega), BitVec.getLsbD_of_ge _ _ (by omega)]
    simp [this]

/-- The state after a write of C differs in C only. -/
theorem State.setC_other (s : State) (b : Bool) : (s.setC b).psw &&& 0xFFFFFFFE = s.psw &&& 0xFFFFFFFE := by
  cases b <;> simp [State.setC, BitVec.and_or_distrib_right, BitVec.and_assoc]

@[simp] theorem State.enter_pc (s : State) (e : Event) (p : Word) : (s.enter e p).pc = s.vecAddr e := rfl

@[simp] theorem State.enter_bpc (s : State) (e : Event) (p : Word) : (s.enter e p).bpc = p &&& 0xFFFFFFFE := rfl

@[simp] theorem State.enter_psw (s : State) (e : Event) (p : Word) :
    (s.enter e p).psw = entryPsw (entryClearsSm e) s.psw := rfl

@[simp] theorem State.eitReturn_pc (s : State) : s.eitReturn.pc = s.bpc &&& 0xFFFFFFFE := rfl

@[simp] theorem State.eitReturn_psw (s : State) : s.eitReturn.psw = returnPsw s.psw := rfl

@[simp] theorem State.markPm_outsideGuarantee (s : State) (b : Bool) :
    (s.markPm b).outsideGuarantee = (s.outsideGuarantee || (b && !s.inUserSpace)) := rfl

/-! ### The whole-register reads -/

@[simp] theorem State.setAcc_reg (s : State) (a : Acc) (v : Acc56) (q : Reg) : (s.setAcc a v).reg q = s.reg q := by
  simp [State.reg]

@[simp] theorem State.setAccInt_reg (s : State) (a : Acc) (v : Int) (q : Reg) : (s.setAccInt a v).reg q = s.reg q := by
  simp [State.reg]

@[simp] theorem State.setC_reg (s : State) (b : Bool) (q : Reg) : (s.setC b).reg q = s.reg q := by
  simp [State.reg]

@[simp] theorem State.goto_reg (s : State) (a : Word) (q : Reg) : (s.goto a).reg q = s.reg q := by
  simp [State.reg]

@[simp] theorem State.useFree_reg (s : State) (k : Nat) (q : Reg) : (s.useFree k).reg q = s.reg q := by
  simp [State.reg]

@[simp] theorem State.writeByte_reg (s : State) (a : Word) (v : Byte) (q : Reg) : (s.writeByte a v).reg q = s.reg q := by
  simp [State.reg]

@[simp] theorem State.writeHalf_reg (s : State) (a : Word) (v : Half) (q : Reg) : (s.writeHalf a v).reg q = s.reg q := by
  simp [State.reg]

@[simp] theorem State.writeWord_reg (s : State) (a : Word) (v : Word) (q : Reg) : (s.writeWord a v).reg q = s.reg q := by
  simp [State.reg]

@[simp] theorem State.copDo_reg (s : State) (op : CopOp) (q : Reg) : (s.copDo op).reg q = s.reg q := by
  simp [State.reg]

@[simp] theorem State.markPm_reg (s : State) (b : Bool) (q : Reg) : (s.markPm b).reg q = s.reg q := by
  simp [State.reg]

end Sys2Proof.Machine
end

