-- ==== Sys2Proof/Laws/Memory.lean ====
section
/-! SUPPORT. Laws/Memory: a read after a write, and that every memory operation keeps the canonical form. -/

namespace Sys2Proof.Machine

theorem Memory.read_of_not_listed (m : Memory) (a : Nat) (h : ∀ c ∈ m, c.1 ≠ a) : m.read a = Memory.unwritten := by
  induction m with
  | nil => rfl
  | cons c t ih =>
    have hc : c.1 ≠ a := h c (by simp)
    simp only [Memory.read, if_neg hc]
    exact ih fun d hd => h d (by simp [hd])

theorem Memory.erase_not_listed (m : Memory) (a : Nat) : ∀ c ∈ m.erase a, c.1 ≠ a := by
  simp [Memory.erase]

theorem Memory.read_erase (m : Memory) (a b : Nat) :
    (m.erase a).read b = if b = a then Memory.unwritten else m.read b := by
  by_cases hb : b = a
  · subst hb
    simp [Memory.read_of_not_listed _ _ (m.erase_not_listed b)]
  · rw [if_neg hb]
    induction m with
    | nil => rfl
    | cons c t ih =>
      by_cases hc : c.1 = a
      · have : c.1 ≠ b := fun h => hb (h.symm.trans hc)
        rw [Memory.erase, List.filter_cons_of_neg (by simp [hc])]
        simp only [Memory.read, if_neg this]
        exact ih
      · rw [Memory.erase, List.filter_cons_of_pos (by simp [hc])]
        simp only [Memory.read]
        split
        · rfl
        · exact ih

theorem Memory.read_insert (m : Memory) (a b : Nat) (v : Byte) (h : ∀ c ∈ m, c.1 ≠ a) :
    (m.insert a v).read b = if b = a then v else m.read b := by
  induction m with
  | nil => simp [Memory.insert, Memory.read, eq_comm]
  | cons c t ih =>
    have hc : c.1 ≠ a := h c (by simp)
    have iht := ih fun d hd => h d (by simp [hd])
    simp only [Memory.insert]
    split
    · simp only [Memory.read, eq_comm (a := a)]
    · simp only [Memory.read, iht]
      by_cases hb : b = a
      · subst hb; simp [hc]
      · simp [hb]

/-- What a write does: the byte written, and every other byte as before. -/
theorem Memory.read_write (m : Memory) (a b : Nat) (v : Byte) :
    (m.write a v).read b = if b = a then v else m.read b := by
  unfold Memory.write
  split
  · next h => rw [Memory.read_erase, h]
  · rw [Memory.read_insert _ _ _ _ (m.erase_not_listed a), Memory.read_erase]
    split <;> rfl

theorem Memory.wf_erase {m : Memory} (h : m.wf) (a : Nat) : (m.erase a).wf := by
  refine ⟨h.1.filter _, fun c hc => h.2 c ?_⟩
  simp only [Memory.erase, List.mem_filter] at hc
  exact hc.1

theorem Memory.mem_insert {m : Memory} {a : Nat} {v : Byte} {c : Host.Cell} (h : c ∈ m.insert a v) :
    c = (a, v) ∨ c ∈ m := by
  induction m with
  | nil => simpa [Memory.insert] using h
  | cons d t ih =>
    simp only [Memory.insert] at h
    split at h
    · simpa using h
    · rcases List.mem_cons.1 h with h | h
      · exact .inr (by simp [h])
      · exact (ih h).imp_right fun h => by simp [h]

theorem Memory.wf_insert {m : Memory} (h : m.wf) {a : Nat} {v : Byte} (hm : ∀ c ∈ m, c.1 ≠ a)
    (hv : v ≠ Memory.unwritten) (ha : a < 4294967296) : (m.insert a v).wf := by
  constructor
  · induction m with
    | nil => simp [Memory.insert]
    | cons d t ih =>
      have ⟨hd, ht⟩ := List.pairwise_cons.1 h.1
      have hda : d.1 ≠ a := hm d (by simp)
      simp only [Memory.insert]
      split
      · next hlt =>
        refine List.pairwise_cons.2 ⟨fun c hc => ?_, h.1⟩
        rcases List.mem_cons.1 hc with rfl | hc
        · exact hlt
        · exact Nat.lt_trans hlt (hd c hc)
      · next hlt =>
        refine List.pairwise_cons.2 ⟨fun c hc => ?_, ih ⟨ht, fun c hc => h.2 c (by simp [hc])⟩
          fun c hc => hm c (by simp [hc])⟩
        rcases Memory.mem_insert hc with rfl | hc
        · exact Nat.lt_of_le_of_ne (Nat.le_of_not_lt hlt) hda
        · exact hd c hc
  · intro c hc
    rcases Memory.mem_insert hc with rfl | hc
    · exact ⟨hv, ha⟩
    · exact h.2 c hc

/-- Every write keeps the canonical form. -/
theorem Memory.wf_write {m : Memory} (h : m.wf) {a : Nat} (v : Byte) (ha : a < 4294967296) : (m.write a v).wf := by
  unfold Memory.write
  split
  · exact Memory.wf_erase h a
  · next hv => exact Memory.wf_insert (Memory.wf_erase h a) (m.erase_not_listed a) hv ha

theorem reset_mem_wf : State.reset.mem.wf := by decide

/-! ### Bytes, halfwords and words of the state -/

/-- A byte after a byte was written. -/
@[simp] theorem State.writeByte_readByte (s : State) (a b : Word) (v : Byte) :
    (s.writeByte a v).readByte b = if b = a then v else s.readByte b := by
  simp only [State.readByte, State.writeByte, Memory.read_write, BitVec.toNat_inj]

theorem State.writeByte_mem_wf {s : State} (h : s.mem.wf) (a : Word) (v : Byte) : (s.writeByte a v).mem.wf :=
  Memory.wf_write h v a.isLt

theorem State.writeHalf_mem_wf {s : State} (h : s.mem.wf) (a : Word) (v : Half) : (s.writeHalf a v).mem.wf :=
  State.writeByte_mem_wf (State.writeByte_mem_wf h _ _) _ _

theorem State.writeWord_mem_wf {s : State} (h : s.mem.wf) (a : Word) (v : Word) : (s.writeWord a v).mem.wf :=
  State.writeByte_mem_wf (State.writeByte_mem_wf (State.writeByte_mem_wf (State.writeByte_mem_wf h _ _) _ _) _ _) _ _

/-- The bytes of a halfword store, big endian (R84). -/
theorem State.writeHalf_readByte (s : State) (a b : Word) (v : Half) :
    (s.writeHalf a v).readByte b =
      if b = a + 1 then v.extractLsb' 0 8 else if b = a then v.extractLsb' 8 8 else s.readByte b := by
  simp only [State.writeHalf, State.writeByte_readByte]

/-- The bytes of a word store, big endian (R84). -/
theorem State.writeWord_readByte (s : State) (a b : Word) (v : Word) :
    (s.writeWord a v).readByte b =
      if b = a + 3 then v.extractLsb' 0 8 else if b = a + 2 then v.extractLsb' 8 8
      else if b = a + 1 then v.extractLsb' 16 8 else if b = a then v.extractLsb' 24 8 else s.readByte b := by
  simp only [State.writeWord, State.writeByte_readByte]

end Sys2Proof.Machine
end

