-- ==== Sys2Proof/Laws/Frame.lean ====
section
/-! SUPPORT. Laws/Frame: how each update of the state enlarges a frame. A frame is proved by composing these along the
meaning of an instruction. -/

namespace Sys2Proof.Machine

variable {w : Writes} {s t : State}

theorem KeepsBut.refl (w : Writes) (s : State) : KeepsBut w s s where
  cell _ _ := rfl
  acc _ _ := rfl
  byte _ _ := rfl
  psw := rfl
  bpc _ := rfl
  evb _ := ⟨rfl, rfl⟩
  lock _ := rfl
  cop _ := rfl
  mark _ := rfl
  inputs := ⟨rfl, rfl, rfl, rfl⟩

theorem KeepsBut.setCell (h : KeepsBut w s t) {k : Cell} (hk : k ∈ w.regs) (v : Word) :
    KeepsBut w s (t.setCell k v) :=
  { h with
    cell := fun j hj => by
      have : j ≠ k := fun e => hj (e ▸ hk)
      simp [this, h.cell j hj]
    acc := fun a ha => by simpa using h.acc a ha
    byte := fun a ha => by simpa using h.byte a ha
    psw := by simpa using h.psw
    bpc := by simpa using h.bpc
    evb := by simpa using h.evb
    lock := by simpa using h.lock
    cop := by simpa using h.cop
    mark := by simpa using h.mark
    inputs := by simpa using h.inputs }

theorem KeepsBut.setReg (h : KeepsBut w s t) {r : Reg} (hr : t.cellOf r ∈ w.regs) (v : Word) :
    KeepsBut w s (t.setReg r v) := h.setCell hr v

theorem KeepsBut.setAcc (h : KeepsBut w s t) {a : Acc} (ha : a ∈ w.accs) (v : Acc56) :
    KeepsBut w s (t.setAcc a v) :=
  { h with
    cell := fun k hk => by simpa using h.cell k hk
    acc := fun j hj => by
      have : j ≠ a := fun e => hj (e ▸ ha)
      simp [this, h.acc j hj]
    byte := fun b hb => by simpa using h.byte b hb
    psw := by simpa using h.psw
    bpc := by simpa using h.bpc
    evb := by simpa using h.evb
    lock := by simpa using h.lock
    cop := by simpa using h.cop
    mark := by simpa using h.mark
    inputs := by simpa using h.inputs }

theorem KeepsBut.goto (h : KeepsBut w s t) (a : Word) : KeepsBut w s (t.goto a) := { h with }

theorem KeepsBut.useFree (h : KeepsBut w s t) (k : Nat) : KeepsBut w s (t.useFree k) := { h with }

/-- A new PSW that differs only in the bits the frame lists. -/
theorem KeepsBut.setPsw (h : KeepsBut w s t) {p : Word} (hp : p &&& ~~~w.psw = s.psw &&& ~~~w.psw) :
    KeepsBut w s { t with psw := p } := { h with psw := hp }

theorem KeepsBut.setC (h : KeepsBut w s t) (hw : w.psw.getLsbD 0 = true) (b : Bool) :
    KeepsBut w s (t.setC b) := by
  refine h.setPsw (p := (t.setC b).psw) ?_
  rw [← h.psw]
  apply BitVec.eq_of_getLsbD_eq
  intro i _
  simp only [BitVec.getLsbD_and, BitVec.getLsbD_not, State.setC_getLsbD]
  split
  · next hi => simp only [hi, hw, Bool.not_true, Bool.and_false]
  · rfl

theorem KeepsBut.writeByte (h : KeepsBut w s t) {a : Word} (ha : a ∈ w.bytes) (v : Byte) :
    KeepsBut w s (t.writeByte a v) :=
  { h with
    byte := fun b hb => by
      have : b ≠ a := fun e => hb (e ▸ ha)
      rw [State.writeByte_readByte, if_neg this]
      exact h.byte b hb }

theorem KeepsBut.writeHalf (h : KeepsBut w s t) {a : Word} (ha : halfBytes a ⊆ w.bytes) (v : Half) :
    KeepsBut w s (t.writeHalf a v) :=
  (h.writeByte (ha (by simp [halfBytes])) _).writeByte (ha (by simp [halfBytes])) _

theorem KeepsBut.writeWord (h : KeepsBut w s t) {a : Word} (ha : wordBytes a ⊆ w.bytes) (v : Word) :
    KeepsBut w s (t.writeWord a v) :=
  (((h.writeByte (ha (by simp [wordBytes])) _).writeByte (ha (by simp [wordBytes])) _).writeByte
    (ha (by simp [wordBytes])) _).writeByte (ha (by simp [wordBytes])) _

theorem KeepsBut.setLock (h : KeepsBut w s t) (hw : w.lock = true) (b : Bool) :
    KeepsBut w s { t with lock := b } := { h with lock := by simp [hw] }

theorem KeepsBut.copDo (h : KeepsBut w s t) (hw : w.cop = true) (op : CopOp) : KeepsBut w s (t.copDo op) :=
  { h with cop := by simp [hw] }

theorem KeepsBut.setBpc (h : KeepsBut w s t) (hw : w.bpc = true) (v : Word) :
    KeepsBut w s { t with bpc := v } := { h with bpc := by simp [hw] }

theorem KeepsBut.setEvb (h : KeepsBut w s t) (hw : w.evb = true) (v : Word) (b : Bool) :
    KeepsBut w s { t with evb := v, evbWritten := b } := { h with evb := by simp [hw] }

theorem KeepsBut.markPm (h : KeepsBut w s t) {b : Bool} (hw : b = true → w.mark = true) : KeepsBut w s (t.markPm b) :=
  { h with
    mark := fun e => by
      have : b = false := by cases b <;> simp_all
      simpa [this] using h.mark e }

/-- A frame stays true when more is listed. -/
theorem KeepsBut.mono {w' : Writes} (h : KeepsBut w s t) (hr : w.regs ⊆ w'.regs) (ha : w.accs ⊆ w'.accs)
    (hb : w.bytes ⊆ w'.bytes) (hp : w.psw &&& ~~~w'.psw = 0) (h1 : w.bpc = true → w'.bpc = true)
    (h2 : w.evb = true → w'.evb = true) (h3 : w.lock = true → w'.lock = true) (h4 : w.cop = true → w'.cop = true)
    (h5 : w.mark = true → w'.mark = true) :
    KeepsBut w' s t where
  cell k hk := h.cell k fun e => hk (hr e)
  acc a hk := h.acc a fun e => hk (ha e)
  byte a hk := h.byte a fun e => hk (hb e)
  psw := by
    apply BitVec.eq_of_getLsbD_eq
    intro i hi
    have e := congrArg (fun x : Word => x.getLsbD i) h.psw
    have z := congrArg (fun x : Word => x.getLsbD i) hp
    simp only [BitVec.getLsbD_and, BitVec.getLsbD_not, hi, decide_true, Bool.true_and] at e z ⊢
    cases hw : w.psw.getLsbD i <;> cases hw' : w'.psw.getLsbD i <;> simp_all
  bpc e := h.bpc (by cases hw : w.bpc <;> simp_all)
  evb e := h.evb (by cases hw : w.evb <;> simp_all)
  lock e := h.lock (by cases hw : w.lock <;> simp_all)
  cop e := h.cop (by cases hw : w.cop <;> simp_all)
  mark e := h.mark (by cases hw : w.mark <;> simp_all)
  inputs := h.inputs

/-- The frame of an EIT entry: PSW, BPC and the PC. -/
theorem enter_frame (s : State) (e : Event) (p : Word) :
    KeepsBut { psw := 0xFFFFFFFF, bpc := true } s (s.enter e p) where
  cell k _ := by simp
  acc a _ := by simp
  byte a _ := by simp
  psw := by simp
  bpc h := by simp at h
  evb _ := ⟨rfl, rfl⟩
  lock _ := rfl
  cop _ := rfl
  mark _ := rfl
  inputs := ⟨rfl, rfl, rfl, rfl⟩

end Sys2Proof.Machine
end

