-- ==== Sys2Proof/Laws/Ops.lean ====
section
/-! SUPPORT. Laws/Ops: for each shared operation, once, everything it can do. -/

namespace Sys2Proof.Machine

/-! ### Checks before an instruction -/

theorem ifAligned_pos {s : State} {ea : Word} {n : Nat} (h : aligned ea n = true) (r : Result) :
    s.ifAligned ea n r = r := by simp [State.ifAligned, h]

theorem ifAligned_neg {s : State} {ea : Word} {n : Nat} (h : aligned ea n = false) (r : Result) :
    s.ifAligned ea n r = s.raise .ae := by simp [State.ifAligned, h]

theorem ifSupervisor_pos {s : State} (h : s.pm = false) (r : Result) : s.ifSupervisor r = r := by
  simp [State.ifSupervisor, h]

theorem ifSupervisor_neg {s : State} (h : s.pm = true) (r : Result) : s.ifSupervisor r = s.raise .pie := by
  simp [State.ifSupervisor, h]

theorem ifCoprocessor_pos {s : State} {n : CpNum} (h : s.copOn n = true) (r : Result) :
    s.ifCoprocessor n r = r := by simp [State.ifCoprocessor, h]

theorem ifCoprocessor_neg {s : State} {n : CpNum} (h : s.copOn n = false) (r : Result) :
    s.ifCoprocessor n r = s.raise .cde := by simp [State.ifCoprocessor, h]

/-! ### Control registers -/

/-- A control register is read exactly when its number names one. -/
theorem readCr_isSome (s : State) (n : CrNum) :
    (s.readCr n).isSome = (n == 0 || n == 1 || n == 2 || n == 3 || n == 5 || n == 6) := by
  revert n; simp [Fin.forall_fin_succ, State.readCr]

/-- What a write of EVB can do: the first one stores, a later one is refused. -/
theorem writeEvb_cases (s : State) (v : Word) :
    (s.evbWritten = false ∧ s.writeEvb v = .ok { s with evb := v &&& evbMask, evbWritten := true }) ∨
      (s.evbWritten = true ∧ s.writeEvb v = .error .evbAlreadyWritten) := by
  cases h : s.evbWritten <;> simp [State.writeEvb, h]

/-- What a write of a control register can do. -/
theorem writeCr_cases {s t : State} {n : CrNum} {v : Word} (h : s.writeCr n v = .ok t) :
    (n = 0 ∧ t = { s with psw := v &&& pswMask }.markPm (v.getLsbD 3)) ∨ (n = 1 ∧ t = s) ∨
      (n = 2 ∧ t = { s with spi := v }) ∨ (n = 3 ∧ t = { s with spu := v }) ∨
      (n = 5 ∧ s.evbWritten = false ∧ t = { s with evb := v &&& evbMask, evbWritten := true }) ∨
      (n = 6 ∧ t = { s with bpc := v &&& 0xFFFFFFFE }) := by
  revert n
  simp only [Fin.forall_fin_succ, State.writeCr]
  rcases writeEvb_cases s v with ⟨h, e⟩ | ⟨h, e⟩ <;> simp [h, e, eq_comm]

/-- When a write of a control register is refused, and with what. -/
theorem writeCr_error {s : State} {n : CrNum} {v : Word} {r : Refusal} (h : s.writeCr n v = .error r) :
    (n = 5 ∧ s.evbWritten = true ∧ r = .evbAlreadyWritten) ∨
      ((n == 0 || n == 1 || n == 2 || n == 3 || n == 5 || n == 6) = false ∧ r = .noControlRegister n) := by
  unfold State.writeCr at h
  split at h <;> first | cases h | skip
  · next n5 =>
    rcases writeEvb_cases s v with ⟨_, e⟩ | ⟨w, e⟩ <;> rw [e] at h <;> cases h
    exact .inl ⟨Fin.ext n5, w, rfl⟩
  · exact .inr ⟨by revert n; decide, rfl⟩

/-! ### Steps -/

/-- What a step boundary can accept, in the order of R515. -/
theorem boundary_cases {s t : State} (h : s.boundary = some t) :
    (s.resetReq = true ∧ t = s.takeReset) ∨ (s.intReq = true ∧ s.ie = true ∧ t = s.enter .ei s.pc) ∨
      (s.copIntReq = true ∧ s.ce = true ∧ t = s.enter .cpi s.pc) := by
  unfold State.boundary at h
  split at h
  · next hr => exact .inl ⟨hr, (Option.some.inj h).symm⟩
  · split at h
    · next hi =>
      have ⟨a, b⟩ := Bool.and_eq_true_iff.mp hi
      exact .inr (.inl ⟨a, b, (Option.some.inj h).symm⟩)
    · split at h
      · next hc =>
        have ⟨a, b⟩ := Bool.and_eq_true_iff.mp hc
        exact .inr (.inr ⟨a, b, (Option.some.inj h).symm⟩)
      · cases h

/-- When a step boundary accepts nothing. -/
theorem boundary_none {s : State} (h : s.boundary = none) :
    s.resetReq = false ∧ (s.intReq && s.ie) = false ∧ (s.copIntReq && s.ce) = false := by
  unfold State.boundary at h
  revert h
  cases s.resetReq <;> cases (s.intReq && s.ie) <;> cases (s.copIntReq && s.ce) <;> simp

/-- What a step can do. -/
theorem step_cases {s : State} {r : Result} (h : step s = r) :
    (∃ t, s.boundary = some t ∧ r = .next t) ∨ (s.boundary = none ∧ r = s.execute) := by
  unfold step at h
  split at h
  · next t ht => exact .inl ⟨t, ht, h.symm⟩
  · next hn => exact .inr ⟨hn, h.symm⟩

/-- What one 16-bit instruction can do: raise RIE, or be executed. -/
theorem runHalf_cases {h : Half} {s : State} {r : Result} (hr : runHalf h s = r) :
    r = s.raise .rie ∨ ∃ i, decode16 h = .ok i ∧ r = exec i s := by
  subst hr
  unfold runHalf
  split
  · next i hi => exact .inr ⟨i, hi, rfl⟩
  · exact .inl rfl

/-- What one 32-bit instruction can do: raise RIE, or be executed. -/
theorem runWide_cases {w : Word} {s : State} {r : Result} (hr : runWide w s = r) :
    r = s.raise .rie ∨ ∃ i, decode32 w = .ok i ∧ r = exec i s := by
  subst hr
  unfold runWide
  split
  · next i hi => exact .inr ⟨i, hi, rfl⟩
  · exact .inl rfl

/-- What the two halves of a parallel word can do: raise RIE, or be executed as a pair. -/
theorem runPair_cases {a b : Half} {s : State} {r : Result} (hr : runPair a b s = r) :
    r = s.raise .rie ∨ ∃ o sd, decode16 a = .ok o ∧ decode16 b = .ok sd ∧ r = execPair o sd s := by
  subst hr
  unfold runPair
  split
  · next o sd ho hs => exact .inr ⟨o, sd, ho, hs, rfl⟩
  all_goals exact .inl rfl

/-- The two low bits of an address from its single bits. -/
theorem low_bits (a : Word) (b0 b1 : Bool) (h0 : a.getLsbD 0 = b0) (h1 : a.getLsbD 1 = b1) :
    a.extractLsb' 0 2 = BitVec.ofBool b1 ++ BitVec.ofBool b0 := by
  apply BitVec.eq_of_getLsbD_eq
  intro i hi
  obtain rfl | rfl : i = 0 ∨ i = 1 := by omega
  all_goals
    subst h0; subst h1
    rw [BitVec.getLsbD_append]
    simp

/-- What executing what stands at PC can do, with the situation of each case: stop at an odd PC, raise RIE, run one
instruction, run a pair, or stop at a half that is no sequential instruction. -/
theorem execute_cases {s : State} {r : Result} (h : s.execute = r) :
    (s.pc.getLsbD 0 = true ∧ r = .fault .oddPc) ∨
      (s.pc.getLsbD 0 = false ∧
        (r = s.raise .rie ∨
          (∃ i, isWide s.fetchWord = true ∧ decode32 s.fetchWord = .ok i ∧ r = exec i s) ∨
          (∃ i, isWide s.fetchWord = false ∧
            decode16 (if s.pc.getLsbD 1 then lowerHalf s.fetchWord else upperHalf s.fetchWord) = .ok i ∧
            r = exec i s) ∨
          (∃ o sd, s.pc.extractLsb' 0 2 = 0 ∧ isWide s.fetchWord = false ∧ isParallel s.fetchWord = true ∧
            decode16 (upperHalf s.fetchWord) = .ok o ∧ decode16 (lowerHalf s.fetchWord) = .ok sd ∧
            r = execPair o sd s) ∨
          (s.pc.extractLsb' 0 2 = 2 ∧ isWide s.fetchWord = true ∧ r = .refused .insideWideInstruction) ∨
          (s.pc.extractLsb' 0 2 = 2 ∧ isWide s.fetchWord = false ∧ isParallel s.fetchWord = true ∧
            r = .refused .insideParallelPair))) := by
  unfold State.execute runAtWord runAtHalf at h
  cases h0 : s.pc.getLsbD 0
  case true => exact .inl ⟨rfl, by rw [← h, if_pos h0]⟩
  refine .inr ⟨rfl, ?_⟩
  cases h1 : s.pc.getLsbD 1 <;> cases hw : isWide s.fetchWord
  all_goals have hl := low_bits s.pc _ _ h0 h1
  all_goals simp only [h0, h1, hw, Bool.false_eq_true, if_false, if_true] at h
  case false.true =>
    rcases runWide_cases h with e | ⟨i, hi, e⟩
    · exact .inl e
    · exact .inr (.inl ⟨i, rfl, hi, e⟩)
  case true.true =>
    exact .inr (.inr (.inr (.inr (.inl ⟨hl, rfl, h.symm⟩))))
  all_goals cases hp : isParallel s.fetchWord
  all_goals simp only [hp, Bool.false_eq_true, if_false, if_true] at h
  case false.false.true =>
    rcases runPair_cases h with e | ⟨o, sd, ho, hs, e⟩
    · exact .inl e
    · exact .inr (.inr (.inr (.inl ⟨o, sd, hl, rfl, rfl, ho, hs, e⟩)))
  case true.false.true =>
    exact .inr (.inr (.inr (.inr (.inr ⟨hl, rfl, rfl, h.symm⟩))))
  case false.false.false =>
    rcases runHalf_cases h with e | ⟨i, hi, e⟩
    · exact .inl e
    · exact .inr (.inr (.inl ⟨i, rfl, by simpa using hi, e⟩))
  case true.false.false =>
    rcases runHalf_cases h with e | ⟨i, hi, e⟩
    · exact .inl e
    · exact .inr (.inr (.inl ⟨i, rfl, by simpa using hi, e⟩))

/-- What a parallel pair can do. -/
theorem execPair_cases {o sd : Instr} {s : State} {r : Result} (h : execPair o sd s = r) :
    (pairAllowed o sd = false ∧ r = .refused .pairPlacement) ∨
      (pairAllowed o sd = true ∧
        ((∃ e, raises o s = some e ∧ r = s.raise e) ∨
          (raises o s = none ∧
            (r = exec o s ∧ ((∀ t, exec o s ≠ .next t) ∨ cancels o s = true) ∨
              cancels o s = false ∧ ∃ sO, exec o s = .next sO ∧
                (r = exec sd s ∧ (∀ t, exec sd s ≠ .next t) ∨
                  ∃ sS, exec sd s = .next sS ∧ r = .next (merge o sd s sO sS)))))) := by
  subst h
  unfold execPair
  split
  · next hp =>
    refine .inr ⟨hp, ?_⟩
    split
    · next e he => exact .inl ⟨e, he, rfl⟩
    · next hn =>
      refine .inr ⟨hn, ?_⟩
      split
      · next sO hO =>
        split
        · next hc => exact .inl ⟨hO.symm, .inr hc⟩
        · next hc =>
          refine .inr ⟨by simpa using hc, sO, hO, ?_⟩
          split
          · next sS hS => exact .inr ⟨sS, hS, rfl⟩
          · next f hS => exact .inl ⟨hS.symm, by simp [hS]⟩
          · next f hS => exact .inl ⟨hS.symm, by simp [hS]⟩
      · next f hO => exact .inl ⟨hO.symm, .inl (by simp [hO])⟩
      · next f hO => exact .inl ⟨hO.symm, .inl (by simp [hO])⟩
  · next hp => exact .inl ⟨by simpa using hp, rfl⟩

end Sys2Proof.Machine
end

