-- ==== Sys2Proof/Laws/Pair.lean ====
section
/-! SUPPORT. Laws/Pair: what the merge of a parallel pair leaves in each part of the state. -/

namespace Sys2Proof.Machine

/-- Two states that agree in everything a merge never touches: all but registers, accumulators, C and the counter of
free values. -/
structure SameFixed (s t : State) : Prop where
  pc : t.pc = s.pc
  evb : t.evb = s.evb
  bpc : t.bpc = s.bpc
  evbWritten : t.evbWritten = s.evbWritten
  lock : t.lock = s.lock
  mem : t.mem = s.mem
  inputs : t.intReq = s.intReq ∧ t.copIntReq = s.copIntReq ∧ t.resetReq = s.resetReq ∧ t.copEnabled = s.copEnabled
  copLog : t.copLog = s.copLog
  mark : t.outsideGuarantee = s.outsideGuarantee
  psw : ∀ n, n ≠ 0 → t.psw.getLsbD n = s.psw.getLsbD n

theorem SameFixed.refl (s : State) : SameFixed s s :=
  ⟨rfl, rfl, rfl, rfl, rfl, rfl, ⟨rfl, rfl, rfl, rfl⟩, rfl, rfl, fun _ _ => rfl⟩

theorem SameFixed.trans {s t u : State} (h : SameFixed s t) (g : SameFixed t u) : SameFixed s u :=
  ⟨g.pc.trans h.pc, g.evb.trans h.evb, g.bpc.trans h.bpc, g.evbWritten.trans h.evbWritten, g.lock.trans h.lock,
    g.mem.trans h.mem, ⟨g.inputs.1.trans h.inputs.1, g.inputs.2.1.trans h.inputs.2.1,
      g.inputs.2.2.1.trans h.inputs.2.2.1, g.inputs.2.2.2.trans h.inputs.2.2.2⟩,
    g.copLog.trans h.copLog, g.mark.trans h.mark, fun n hn => (g.psw n hn).trans (h.psw n hn)⟩

/-! ### One register -/

theorem mergeReg_fixed (l : List Cell) (u t : State) (k : Cell) : SameFixed t (mergeReg l u t k) := by
  unfold mergeReg
  split <;> constructor <;> simp

theorem mergeReg_psw (l : List Cell) (u t : State) (k : Cell) : (mergeReg l u t k).psw = t.psw := by
  unfold mergeReg
  split <;> simp

theorem mergeReg_acc (l : List Cell) (u t : State) (k : Cell) (a : Acc) : (mergeReg l u t k).acc a = t.acc a := by
  unfold mergeReg
  split <;> simp

theorem mergeReg_cell_other (l : List Cell) (u t : State) {k j : Cell} (h : j ≠ k) :
    (mergeReg l u t k).cell j = t.cell j := by
  unfold mergeReg
  split <;> simp [h]

theorem mergeReg_cell_free (l : List Cell) (u t : State) {k : Cell} (h : k ∉ l) :
    (mergeReg l u t k).cell k = u.cell k := by
  simp [mergeReg, h]

/-! ### The registers -/

theorem mergeRegs_fixed (l : List Cell) (u t : State) (ks : List Cell) :
    SameFixed t (ks.foldl (mergeReg l u) t) := by
  induction ks generalizing t with
  | nil => exact SameFixed.refl t
  | cons k ks ih => exact (mergeReg_fixed l u t k).trans (ih _)

theorem mergeRegs_psw (l : List Cell) (u t : State) (ks : List Cell) :
    (ks.foldl (mergeReg l u) t).psw = t.psw := by
  induction ks generalizing t with
  | nil => rfl
  | cons k ks ih => exact (ih _).trans (mergeReg_psw l u t k)

theorem mergeRegs_acc (l : List Cell) (u t : State) (ks : List Cell) (a : Acc) :
    (ks.foldl (mergeReg l u) t).acc a = t.acc a := by
  induction ks generalizing t with
  | nil => rfl
  | cons k ks ih => exact (ih _).trans (mergeReg_acc l u t k a)

theorem mergeRegs_cell_other (l : List Cell) (u t : State) (ks : List Cell) {j : Cell} (h : j ∉ ks) :
    (ks.foldl (mergeReg l u) t).cell j = t.cell j := by
  induction ks generalizing t with
  | nil => rfl
  | cons k ks ih =>
    simp only [List.mem_cons, not_or] at h
    exact (ih _ h.2).trans (mergeReg_cell_other l u t h.1)

theorem mergeRegs_cell_free (l : List Cell) (u t : State) (ks : List Cell) {j : Cell} (h : j ∈ ks) (hl : j ∉ l) :
    (ks.foldl (mergeReg l u) t).cell j = u.cell j := by
  induction ks generalizing t with
  | nil => cases h
  | cons k ks ih =>
    by_cases hj : j ∈ ks
    · exact ih _ hj
    · rcases List.mem_cons.1 h with rfl | h
      · exact (mergeRegs_cell_other l u _ ks hj).trans (mergeReg_cell_free l u t hl)
      · exact absurd h hj

/-! ### C and the accumulators -/

theorem mergeC_fixed (b : Bool) (u t : State) : SameFixed t (mergeC b u t) := by
  unfold mergeC
  split <;> constructor <;> simp +contextual [State.setC_getLsbD]

theorem mergeC_cell (b : Bool) (u t : State) (k : Cell) : (mergeC b u t).cell k = t.cell k := by
  unfold mergeC
  split <;> simp

theorem mergeC_acc (b : Bool) (u t : State) (a : Acc) : (mergeC b u t).acc a = t.acc a := by
  unfold mergeC
  split <;> simp

theorem mergeC_c (u t : State) : (mergeC false u t).c = u.c := by simp [mergeC]

theorem mergeAccs_fixed (u t : State) (as : List Acc) : SameFixed t (as.foldl (mergeAcc u) t) := by
  induction as generalizing t with
  | nil => exact SameFixed.refl t
  | cons a as ih => exact SameFixed.trans (by constructor <;> simp [mergeAcc]) (ih _)

theorem mergeAccs_psw (u t : State) (as : List Acc) : (as.foldl (mergeAcc u) t).psw = t.psw := by
  induction as generalizing t with
  | nil => rfl
  | cons a as ih => exact (ih _).trans (by simp [mergeAcc])

theorem mergeAccs_cell (u t : State) (as : List Acc) (k : Cell) :
    (as.foldl (mergeAcc u) t).cell k = t.cell k := by
  induction as generalizing t with
  | nil => rfl
  | cons a as ih => exact (ih _).trans (by simp [mergeAcc])

theorem mergeAccs_acc (u t : State) (as : List Acc) (a : Acc) :
    (as.foldl (mergeAcc u) t).acc a = if a ∈ as then u.acc a else t.acc a := by
  induction as generalizing t with
  | nil => simp
  | cons b as ih =>
    rw [List.foldl_cons, ih]
    by_cases h : a ∈ as
    · simp [h]
    · by_cases hb : a = b <;> simp [mergeAcc, h, hb]

/-! ### The merge -/

/-- O's result stands in all that S cannot write. -/
theorem merge_fixed (o sd : Instr) (s sO sS : State) : SameFixed sO (merge o sd s sO sS) := by
  unfold merge
  refine SameFixed.trans ?_ (mergeAccs_fixed sS _ _)
  have h : SameFixed sO ((regWrites sd s).foldl (mergeReg (claims o s) sS)
      { sO with freeCount := max sO.freeCount sS.freeCount }) :=
    SameFixed.trans (by constructor <;> simp) (mergeRegs_fixed _ _ _ _)
  split
  · exact h.trans (mergeC_fixed _ _ _)
  · exact h

/-- A register S does not write holds what O left. -/
theorem merge_cell_other (o sd : Instr) (s sO sS : State) {k : Cell} (h : k ∉ regWrites sd s) :
    (merge o sd s sO sS).cell k = sO.cell k := by
  unfold merge
  rw [mergeAccs_cell]
  split
  · rw [mergeC_cell, mergeRegs_cell_other _ _ _ _ h]; rfl
  · rw [mergeRegs_cell_other _ _ _ _ h]; rfl

/-- A register S writes without a collision holds S's result. -/
theorem merge_cell_free (o sd : Instr) (s sO sS : State) {k : Cell} (h : k ∈ regWrites sd s)
    (hc : k ∉ claims o s) : (merge o sd s sO sS).cell k = sS.cell k := by
  unfold merge
  rw [mergeAccs_cell]
  split
  · rw [mergeC_cell, mergeRegs_cell_free _ _ _ _ h hc]
  · rw [mergeRegs_cell_free _ _ _ _ h hc]

/-- An accumulator holds S's result where S writes it, and O's elsewhere. -/
theorem merge_acc (o sd : Instr) (s sO sS : State) (a : Acc) :
    (merge o sd s sO sS).acc a = if a ∈ accWrites sd then sS.acc a else sO.acc a := by
  unfold merge
  rw [mergeAccs_acc]
  split
  · rfl
  · split
    · rw [mergeC_acc, mergeRegs_acc]; rfl
    · rw [mergeRegs_acc]; rfl

/-- C when S writes it and O does not. -/
theorem merge_c_right (o sd : Instr) (s sO sS : State) (h : writesC sd = true) (ho : writesC o = false) :
    (merge o sd s sO sS).c = sS.c := by
  unfold merge
  rw [State.c, mergeAccs_psw]
  rw [if_pos h, ho]
  exact mergeC_c _ _

/-- C when S does not write it. -/
theorem merge_c_left (o sd : Instr) (s sO sS : State) (h : writesC sd = false) :
    (merge o sd s sO sS).c = sO.c := by
  unfold merge
  rw [State.c, mergeAccs_psw]
  rw [if_neg (by simp [h]), mergeRegs_psw]
  rfl

end Sys2Proof.Machine
end

