-- ==== Sys2Proof/Tests/Slice0.lean ====
section
/-! SUPPORT. Tests: the WellFormed smoke, words written out from the spec's encodings, single steps from the vectors of
95_test_vectors.md, and for each obligation with hypotheses a state and operands that meet them. -/

namespace Sys2Proof.Machine

/-! ### WellFormed -/

/-- The only check: the shift count of RAC and RACH is 1 or 2 (R127). -/
theorem test_wf_refuses_bad_counts :
    (Instr.rac .a0 .a0 0).wf = false ∧ (Instr.rac .a0 .a1 3).wf = false ∧ (Instr.rach .a0 .a0 0).wf = false ∧
    (Instr.rach .a1 .a0 3).wf = false ∧ (Instr.rac .a0 .a0 1).wf = true ∧ (Instr.rach .a0 .a0 2).wf = true := by decide

/-! ### Decoding: one word for every constructor, written out from its rule's encoding and mostly the rule's own example -/

/-- Load and store (40_load_store.md). -/
theorem test_decode_loadStore :
    decode16 0b0010_0001_1110_0010 = .ok (.ldInc 1 2) ∧  -- LD R1,@R2+ (R200 example, bit by bit)
    decode16 0b0010_0001_1100_0010 = .ok (.ld 1 2) ∧  -- LD R1,@R2
    decode16 0x2182 = .ok (.ldb 1 2) ∧  -- LDB R1,@R2
    decode16 0x2091 = .ok (.ldub 0 1) ∧  -- LDUB R0,@R1 (R202)
    decode16 0x21A2 = .ok (.ldh 1 2) ∧  -- LDH R1,@R2
    decode16 0x27B8 = .ok (.lduh 7 8) ∧  -- LDUH R7,@R8 (R204)
    decode16 0x20D1 = .ok (.lock 0 1) ∧  -- LOCK R0,@R1 (R205)
    decode16 0x2142 = .ok (.st 1 2) ∧  -- ST R1,@R2
    decode16 0x2162 = .ok (.stPreInc 1 2) ∧  -- ST R1,@+R2
    decode16 0x2E7F = .ok (.stPreDec 14 15) ∧  -- ST R14,@-R15 (R206)
    decode16 0x2102 = .ok (.stb 1 2) ∧  -- STB R1,@R2
    decode16 0x2112 = .ok (.stbInc 1 2) ∧  -- STB R1,@R2+ (R207)
    decode16 0x2122 = .ok (.sth 1 2) ∧  -- STH R1,@R2
    decode16 0x2132 = .ok (.sthInc 1 2) ∧  -- STH R1,@R2+
    decode16 0x2152 = .ok (.unlock 1 2) ∧  -- UNLOCK R1,@R2 (R209)
    decode32 0b1010_0001_1100_0010_0000_0000_0000_0100 = .ok (.ldDisp 1 2 4) ∧  -- LD R1,@(4,R2)
    decode32 0xA384FFFF = .ok (.ldbDisp 3 4 0xFFFF) ∧  -- LDB R3,@(-1,R4) (R201)
    decode32 0xA1920003 = .ok (.ldubDisp 1 2 3) ∧  -- LDUB R1,@(3,R2)
    decode32 0xA5A60002 = .ok (.ldhDisp 5 6 2) ∧  -- LDH R5,@(2,R6) (R203)
    decode32 0xA1B20002 = .ok (.lduhDisp 1 2 2) ∧  -- LDUH R1,@(2,R2)
    decode32 0xA1020001 = .ok (.stbDisp 1 2 1) ∧  -- STB R1,@(1,R2)
    decode32 0xA3240006 = .ok (.sthDisp 3 4 6) ∧  -- STH R3,@(6,R4) (R208)
    decode32 0xA1420008 = .ok (.stDisp 1 2 8) := by decide  -- ST R1,@(8,R2)

/-- Transfer (41_transfer.md). -/
theorem test_decode_transfer :
    decode16 0b0001_0000_1001_0000 = .ok (.mvfc 0 0) ∧  -- MVFC R0,PSW (R233, bit by bit)
    decode16 0x1396 = .ok (.mvfc 3 6) ∧  -- MVFC R3,BPC (R233)
    decode16 0x10A1 = .ok (.mvtc 1 0) ∧  -- MVTC R1,PSW (R234)
    decode16 0x15A0 = .ok (.mvtc 0 5) ∧  -- MVTC R0,EVB (R234)
    decode16 0x1180 = .ok (.mv 1 0) ∧  -- MV R1,R0 (R232)
    decode16 0x6105 = .ok (.ldi8 1 5) ∧  -- LDI R1,#5 (R231)
    decode32 0x91F01234 = .ok (.ldi16 1 0x1234) ∧  -- LDI R1,#0x1234 (R231)
    decode32 0xE2123456 = .ok (.ld24 2 0x123456) ∧  -- LD24 R2,#0x123456 (R230)
    decode32 0xD4C0DEAD = .ok (.seth 4 0xDEAD) := by decide  -- SETH R4,#0xDEAD (R235)

/-- Compare (42_compare_arith_logic.md). -/
theorem test_decode_compare :
    decode16 0b0000_0001_0100_0000 = .ok (.cmp 1 0) ∧  -- CMP R1,R0 (R250, bit by bit)
    decode16 0x0150 = .ok (.cmpu 1 0) ∧  -- CMPU R1,R0
    decode16 0x0263 = .ok (.cmpeq 2 3) ∧  -- CMPEQ R2,R3
    decode16 0x0076 = .ok (.cmpz 6) ∧  -- CMPZ R6
    decode16 0x0377 = .ok (.pcmpbz 7) ∧  -- PCMPBZ R7
    decode32 0x8044000A = .ok (.cmpi 4 10) ∧  -- CMPI R4,#10
    decode32 0x80558000 = .ok (.cmpui 5 0x8000) := by decide  -- CMPUI R5,#0x8000

/-- Arithmetic and logic (42_compare_arith_logic.md). -/
theorem test_decode_arith :
    decode16 0b0000_0011_0010_1111 = .ok (.sub 3 15) ∧  -- SUB R3,R15 (R267, bit by bit)
    decode16 0x01A2 = .ok (.add 1 2) ∧  -- ADD R1,R2
    decode16 0x43FF = .ok (.addi 3 0xFF) ∧  -- ADDI R3,#-1
    decode16 0x0182 = .ok (.addv 1 2) ∧  -- ADDV R1,R2
    decode16 0x0192 = .ok (.addx 1 2) ∧  -- ADDX R1,R2
    decode16 0x0132 = .ok (.neg 1 2) ∧  -- NEG R1,R2
    decode16 0x0102 = .ok (.subv 1 2) ∧  -- SUBV R1,R2
    decode16 0x0112 = .ok (.subx 1 2) ∧  -- SUBX R1,R2
    decode16 0x01C2 = .ok (.and 1 2) ∧  -- AND R1,R2
    decode16 0x01E2 = .ok (.or 1 2) ∧  -- OR R1,R2
    decode16 0x01D2 = .ok (.xor 1 2) ∧  -- XOR R1,R2
    decode16 0x01B2 = .ok (.not 1 2) ∧  -- NOT R1,R2
    decode32 0x81A2FFFF = .ok (.add3 1 2 0xFFFF) ∧  -- ADD3 R1,R2,#-1
    decode32 0x81820001 = .ok (.addv3 1 2 1) ∧  -- ADDV3 R1,R2,#1
    decode32 0x81C200FF = .ok (.and3 1 2 0xFF) ∧  -- AND3 R1,R2,#0x00FF
    decode32 0x81E1BEEF = .ok (.or3 1 1 0xBEEF) ∧  -- OR3 R1,R1,#0xBEEF
    decode32 0x81D2FFFF = .ok (.xor3 1 2 0xFFFF) := by decide  -- XOR3 R1,R2,#0xFFFF

/-- Multiply and divide (43_muldiv_shift.md). -/
theorem test_decode_mulDiv :
    decode16 0x1162 = .ok (.mul 1 2) ∧  -- MUL R1,R2
    decode32 0b1001_0001_0000_0010_0000_0000_0001_0000 = .ok (.divh 1 2) ∧  -- DIVH R1,R2 (R302, bit by bit)
    decode32 0x91020000 = .ok (.div 1 2) ∧  -- DIV R1,R2
    decode32 0x91020018 = .ok (.divb 1 2) ∧  -- DIVB R1,R2
    decode32 0x91120000 = .ok (.divu 1 2) ∧  -- DIVU R1,R2
    decode32 0x91120010 = .ok (.divuh 1 2) ∧  -- DIVUH R1,R2
    decode32 0x91120018 = .ok (.divub 1 2) ∧  -- DIVUB R1,R2
    decode32 0x91220000 = .ok (.rem 1 2) ∧  -- REM R1,R2
    decode32 0x91220010 = .ok (.remh 1 2) ∧  -- REMH R1,R2
    decode32 0x91220018 = .ok (.remb 1 2) ∧  -- REMB R1,R2
    decode32 0x91320000 = .ok (.remu 1 2) ∧  -- REMU R1,R2
    decode32 0x91320010 = .ok (.remuh 1 2) ∧  -- REMUH R1,R2
    decode32 0x91320018 = .ok (.remub 1 2) := by decide  -- REMUB R1,R2

/-- Shift (43_muldiv_shift.md). -/
theorem test_decode_shift :
    decode16 0b0101_0001_0101_1111 = .ok (.slli 1 31) ∧  -- SLLI R1,#31 (R322, bit by bit)
    decode16 0x5121 = .ok (.srai 1 1) ∧  -- SRAI R1,#1
    decode16 0x5104 = .ok (.srli 1 4) ∧  -- SRLI R1,#4
    decode16 0x1142 = .ok (.sll 1 2) ∧  -- SLL R1,R2
    decode16 0x1122 = .ok (.sra 1 2) ∧  -- SRA R1,R2
    decode16 0x1102 = .ok (.srl 1 2) ∧  -- SRL R1,R2
    decode32 0x91C20004 = .ok (.sll3 1 2 4) ∧  -- SLL3 R1,R2,#4
    decode32 0x91A20010 = .ok (.sra3 1 2 16) ∧  -- SRA3 R1,R2,#16
    decode32 0x91820018 = .ok (.srl3 1 2 24) := by decide  -- SRL3 R1,R2,#24

/-- Branch, 16-bit (44_branch.md). -/
theorem test_decode_branch16 :
    decode16 0b0111_1100_0000_0100 = .ok (.bc8 4) ∧  -- BC +4 words (R342, bit by bit)
    decode16 0x7810 = .ok (.bcl8 16) ∧  -- BCL +16 words
    decode16 0x7902 = .ok (.bncl8 2) ∧  -- BNCL +2 words
    decode16 0x7D02 = .ok (.bnc8 2) ∧  -- BNC +2 words (file 95)
    decode16 0x7E08 = .ok (.bl8 8) ∧  -- BL +8 words
    decode16 0x7FFF = .ok (.bra8 0xFF) ∧  -- BRA -1 word
    decode16 0x1CC1 = .ok (.jc 1) ∧  -- JC R1
    decode16 0x1DC1 = .ok (.jnc 1) ∧  -- JNC R1
    decode16 0x1EC1 = .ok (.jl 1) ∧  -- JL R1
    decode16 0x1FC1 = .ok (.jmp 1) ∧  -- JMP R1
    decode16 0x7000 = .ok .nop ∧  -- NOP (R360)
    decode16 0x7401 = .ok .sc ∧  -- SC (R361)
    decode16 0x7501 = .ok .snc := by decide  -- SNC (R362)

/-- Branch, 32-bit (44_branch.md). -/
theorem test_decode_branch32 :
    decode32 0b1111_1100_1111_1111_1111_1111_1111_1110 = .ok (.bc24 0xFFFFFE) ∧  -- BC -2 words (R342, bit by bit)
    decode32 0xFD000003 = .ok (.bnc24 3) ∧  -- BNC +3 words (file 95)
    decode32 0xF8000100 = .ok (.bcl24 0x100) ∧  -- BCL +0x100 words (file 95)
    decode32 0xF9FFFFFF = .ok (.bncl24 0xFFFFFF) ∧  -- BNCL -1 word (file 95)
    decode32 0xFE000100 = .ok (.bl24 0x100) ∧  -- BL +0x100 words
    decode32 0xFFFFFFFF = .ok (.bra24 0xFFFFFF) ∧  -- BRA -1 word
    decode32 0xB1020003 = .ok (.beq 1 2 3) ∧  -- BEQ R1,R2,+3 words
    decode32 0xB112FFFF = .ok (.bne 1 2 0xFFFF) ∧  -- BNE R1,R2,-1 word
    decode32 0xB0810002 = .ok (.beqz 1 2) ∧  -- BEQZ R1,+2 words
    decode32 0xB091FFFF = .ok (.bnez 1 0xFFFF) ∧  -- BNEZ R1,-1 word
    decode32 0xB0A10002 = .ok (.bltz 1 2) ∧  -- BLTZ R1,+2 words
    decode32 0xB0B10002 = .ok (.bgez 1 2) ∧  -- BGEZ R1,+2 words
    decode32 0xB0C10002 = .ok (.blez 1 2) ∧  -- BLEZ R1,+2 words
    decode32 0xB0D10002 = .ok (.bgtz 1 2) := by decide  -- BGTZ R1,+2 words

/-- Bit operation and EIT (45_bit_eit.md). -/
theorem test_decode_bitEit :
    decode16 0b0000_0111_1111_0001 = .ok (.btst 7 1) ∧  -- BTST #7,R1 (R382, bit by bit)
    decode32 0xA772FFFF = .ok (.bclr 7 2 0xFFFF) ∧  -- BCLR #7,@(-1,R2)
    decode32 0xA3610000 = .ok (.bset 3 1 0) ∧  -- BSET #3,@(0,R1)
    decode16 0x7240 = .ok (.clrpsw 0x40) ∧  -- CLRPSW #0x40
    decode16 0x7140 = .ok (.setpsw 0x40) ∧  -- SETPSW #0x40
    decode16 0x10FF = .ok (.trap 15) ∧  -- TRAP #15
    decode16 0x10D6 = .ok .rte := by decide  -- RTE

/-- DSP (46_dsp.md). -/
theorem test_decode_dsp :
    decode16 0b0011_0001_1101_0010 = .ok (.maclo 1 2 .a1) ∧  -- MACLO R1,R2,A1 (R402, bit by bit)
    decode16 0x3142 = .ok (.machi 1 2 .a0) ∧  -- MACHI R1,R2,A0
    decode16 0x51C2 = .ok (.maclh1 1 2) ∧  -- MACLH1 R1,R2
    decode16 0x3162 = .ok (.macwhi 1 2) ∧  -- MACWHI R1,R2
    decode16 0x3172 = .ok (.macwlo 1 2) ∧  -- MACWLO R1,R2
    decode16 0x51B2 = .ok (.macwu1 1 2) ∧  -- MACWU1 R1,R2
    decode16 0x51D2 = .ok (.msblo 1 2) ∧  -- MSBLO R1,R2
    decode16 0x3182 = .ok (.mulhi 1 2 .a1) ∧  -- MULHI R1,R2,A1
    decode16 0x3112 = .ok (.mullo 1 2 .a0) ∧  -- MULLO R1,R2,A0
    decode16 0x3122 = .ok (.mulwhi 1 2) ∧  -- MULWHI R1,R2
    decode16 0x3132 = .ok (.mulwlo 1 2) ∧  -- MULWLO R1,R2
    decode16 0x51A2 = .ok (.mulwu1 1 2) ∧  -- MULWU1 R1,R2
    decode16 0x51F4 = .ok (.mvfachi 1 .a1) ∧  -- MVFACHI R1,A1
    decode16 0x51F1 = .ok (.mvfaclo 1 .a0) ∧  -- MVFACLO R1,A0
    decode16 0x51F6 = .ok (.mvfacmi 1 .a1) ∧  -- MVFACMI R1,A1
    decode16 0x5174 = .ok (.mvtachi 1 .a1) ∧  -- MVTACHI R1,A1
    decode16 0x5171 = .ok (.mvtaclo 1 .a0) ∧  -- MVTACLO R1,A0
    decode16 0x5491 = .ok (.rac .a1 .a0 2) ∧  -- RAC A1,A0,#2
    decode16 0x5080 = .ok (.rach .a0 .a0 1) ∧  -- RACH A0,A0,#1
    decode16 0x50E4 = .ok .sadd ∧  -- SADD
    decode32 0x81620300 = .ok (.satb 1 2) ∧  -- SATB R1,R2
    decode32 0x81620200 = .ok (.sath 1 2) := by decide  -- SATH R1,R2

/-- Coprocessor (47_coprocessor.md). -/
theorem test_decode_coprocessor :
    decode32 0b1101_0001_0110_0010_0011_0000_0000_0101 = .ok (.mvtcp 1 2 5 3) ∧  -- MVTCP R1,CPR2,0x05,3 (R451, bit by bit)
    decode32 0xD1523000 = .ok (.mvfcp 1 2 0 3) ∧  -- MVFCP R1,CPR2,0x00,3
    decode32 0xD1720010 = .ok (.opecp 1 2 0x10 0) := by decide  -- OPECP CPR1,CPR2,0x10,0

/-- Words of no row are rejected (R145): an unassigned opcode, and fixed bits that are not as in the table. -/
theorem test_decode_reserved :
    decode16 0x7001 = .error .reserved16 ∧ decode16 0x0F76 = .error .reserved16 ∧
    decode32 0x91020001 = .error .reserved32 ∧ decode32 0xC0000000 = .error .reserved32 := by decide

/-! ### Single steps, from the vectors of 95_test_vectors.md -/

/-- The state after reset with PC = 0x1000, `w` stored there, PSW = `psw`, and register values. -/
def start (w psw : Word) (regs : List (Reg × Word)) : State :=
  regs.foldl (fun s p => s.setReg p.1 p.2)
    { (State.reset.writeWord 0x1000 w).goto 0x1000 with psw := psw }

/-- The result is a next state that passes `f`. -/
def gives (r : Result) (f : State → Bool) : Bool :=
  match r with
  | .next t => f t
  | .fault _ => false
  | .refused _ => false

/-- The state with a word of data at 0x2000. -/
def withData (v : Word) (s : State) : State := s.writeWord 0x2000 v

theorem test_ld_post_increment :
    gives (step (withData 0x11223344 (start 0x21E27000 0 [(2, 0x2000)])))
      (fun t => t.reg 1 == 0x11223344 && t.reg 2 == 0x2004 && t.pc == 0x1002) = true := by decide

theorem test_mvtc_psw_masks :
    gives (step (start 0x10A17000 0 [(1, 0xFFFFFFFF)])) (fun t => t.psw == 0xCDCD) = true := by decide

theorem test_mvtc_evb_masks :
    gives (step (start 0x15A17000 0 [(1, 0xFFFFFFFF)])) (fun t => t.evb == 0x7FFF0000 && t.evbWritten) = true := by
  decide

/-- 93_implementation_defined.md U10: a second write of EVB is refused; in user mode PIE comes first. -/
theorem test_mvtc_evb_second_write :
    step { start 0x15A17000 0 [(1, 0xFFFFFFFF)] with evbWritten := true } = .refused .evbAlreadyWritten ∧
    gives (step { start 0x15A17000 8 [(1, 0xFFFFFFFF)] with evbWritten := true })
      (fun t => t.evb == 0 && t.bpc == 0x1000) = true := ⟨rfl, by decide⟩

/-- 95_test_vectors.md: `LD R1,@R1+` is not defined (U12); off a word boundary it raises AE as any LD. -/
theorem test_ld_post_increment_of_its_base :
    step (withData 0x11223344 (start 0x21E17000 0 [(1, 0x2000)])) = .refused .registerWrittenTwice ∧
    gives (step (start 0x21E17000 0 [(1, 0x2002)])) (fun t => t.reg 1 == 0x2002 && t.bpc == 0x1000) = true :=
  ⟨rfl, by decide⟩

/-- `SETPSW #0x08` enters user mode, and marks the program when it stands outside the user space. -/
theorem test_setpsw_pm_outside_user_space :
    gives (step (start 0x71087000 0 [])) (fun t => t.pm && !t.outsideGuarantee) = true ∧
    gives (step ((State.reset.goto 0x80000000).withFetchWord 16 0x7108))
      (fun t => t.pm && t.outsideGuarantee) = true := by decide

/-- MVTC to PSW with PM = 0 marks nothing, with PM = 1 it does. -/
theorem test_mvtc_pm_outside_user_space :
    gives (exec (.mvtc 1 0) ((State.reset.setReg 1 0x0800).goto 0xFFFFFFFC)) (fun t => !t.outsideGuarantee) = true ∧
    gives (exec (.mvtc 1 0) ((State.reset.setReg 1 0x0008).goto 0xFFFFFFFC)) (fun t => t.outsideGuarantee) = true := by
  decide

theorem test_mv_to_r15_selects_spu :
    gives (step (start 0x1F817000 0x80 [(1, 0x5000)])) (fun t => t.spu == 0x5000 && t.spi == 0) = true := by decide

theorem test_mvtc_in_user_mode_raises_pie :
    gives (step (start 0x10A17000 0x0008 [(1, 0)]))
      (fun t => t.psw == 0x0800 && t.bpc == 0x1000) = true := by decide

theorem test_cmpui_sign_extends :
    gives (step (start 0x80558000 0 [(5, 0xFFFF7FFF)])) (fun t => t.c && t.pc == 0x1004) = true := by decide

theorem test_subv_overflow :
    gives (step (start 0x01027000 0 [(1, 0x80000000), (2, 1)])) (fun t => t.reg 1 == 0x7FFFFFFF && t.c) = true := by
  decide

theorem test_subx_borrow_chain :
    gives (step (start 0x01127000 1 [(1, 0), (2, 0)])) (fun t => t.reg 1 == 0xFFFFFFFF && t.c) = true := by decide

theorem test_rem_takes_the_sign_of_the_dividend :
    gives (step (start 0x91220000 0 [(1, 0xFFFFFFF9), (2, 2)])) (fun t => t.reg 1 == 0xFFFFFFFF) = true := by decide

theorem test_remb_takes_the_low_byte :
    gives (step (start 0x91220018 0 [(1, 0x123456F9), (2, 2)])) (fun t => t.reg 1 == 0xFFFFFFFF) = true := by decide

theorem test_divuh_by_zero_keeps_dest :
    gives (step (start 0x91120010 0 [(1, 0x12348000), (2, 0)])) (fun t => t.reg 1 == 0x12348000) = true := by decide

theorem test_srl3_count :
    gives (step (start 0x91820004 0 [(2, 0x80000010)])) (fun t => t.reg 1 == 0x08000001) = true := by decide

theorem test_bl_in_the_upper_half_links_the_next_word :
    gives (step (start 0x7E027000 0 [(14, 0xAAAAAAAA)])) (fun t => t.reg 14 == 0x1004 && t.pc == 0x1008) = true := by
  decide

theorem test_bl_in_the_lower_half_links_the_next_word :
    gives (step ((start 0x70007E02 0 [(14, 0xAAAAAAAA)]).goto 0x1002))
      (fun t => t.reg 14 == 0x1004 && t.pc == 0x1008) = true := by decide

theorem test_bncl24_backward :
    gives (step (start 0xF9FFFFFF 0 [])) (fun t => t.reg 14 == 0x1004 && t.pc == 0x0FFC) = true := by decide

theorem test_bset_bit_3_of_a_byte :
    gives (step (withData 0x00FF5AA5 (start 0xA561FFFF 0 [(1, 0x2003)]))) (fun t => t.readByte 0x2002 == 0x5E) = true := by
  decide

theorem test_rte :
    gives (step { start 0x10D67000 0xC100 [] with bpc := 0x2002 }) (fun t => t.psw == 0xC1C1 && t.pc == 0x2002) = true := by
  decide

theorem test_trap_saves_the_next_instruction :
    gives (step (start 0x10F07000 0x00C1 [])) (fun t => t.psw == 0xC180 && t.bpc == 0x1002) = true := by decide

theorem test_mulwlo_signed :
    gives (step (start 0x31327000 0 [(1, 0x80000000), (2, 0x12347FFF)])) (fun t => t.acc0 == 0xFFC00080000000) = true := by
  decide

theorem test_msblo_wraps_at_56_bits :
    gives (step { start 0x51D27000 0 [(1, 0x8000), (2, 0x7FFF)] with acc0 := 0x7FFFFFFFFFFFFF })
      (fun t => t.acc0 == 0x803FFF7FFFFFFF) = true := by decide

theorem test_rac_rounds_up_at_the_half :
    gives (step { start 0x50907000 0 [] with acc0 := 0x4000 }) (fun t => t.acc0 == 0x10000) = true := by decide

theorem test_rach_saturates :
    gives (step { start 0x50807000 0 [] with acc0 := 0x003FFF40000000 }) (fun t => t.acc0 == 0x007FFF00000000) = true := by
  decide

theorem test_mvtachi_keeps_the_low_word :
    gives (step { start 0x51707000 0 [(1, 0x12FFFFFF)] with acc0 := 0x00000055555555 })
      (fun t => t.acc0 == 0xFFFFFF55555555) = true := by decide

theorem test_coprocessor_disabled :
    gives (step (start 0xD1625034 0x00C1 [(1, 7)]))
      (fun t => t.psw == 0xC180 && t.bpc == 0x1000 && t.copLog == []) = true := by decide

/-- 49_sequencing_parallel.md: `MV R1,R0 || MV R2,R1` reads the old R1. -/
theorem test_pair_reads_the_state_before :
    gives (step (start 0x11809281 0 [(0, 0x11111111), (1, 0x22222222), (2, 0x33333333)]))
      (fun t => t.reg 1 == 0x11111111 && t.reg 2 == 0x22222222 && t.pc == 0x1004) = true := by decide

/-- `BC +16 || CMP R1,R0` branches on the old C and writes the new one (example 4). -/
theorem test_pair_branches_on_the_old_condition :
    gives (step (start 0x7C048140 1 [(0, 3), (1, 5)])) (fun t => !t.c && t.pc == 0x1010) = true := by decide

/-- `SNC || MV R0,R1` with C = 0 cancels the MV. -/
theorem test_pair_snc_cancels :
    gives (step (start 0x75019081 0 [(0, 1), (1, 2)])) (fun t => t.reg 0 == 1 && t.pc == 0x1004) = true := by decide

/-- An instruction placed at the reset state runs as the first one. -/
theorem test_placed_instruction_runs :
    gives (step (State.reset.withFetchWord 16 0x6105)) (fun t => t.reg 1 == 5 && t.pc == 2) = true ∧
    gives (step (State.reset.withFetchWord 32 0xE2123456)) (fun t => t.reg 2 == 0x123456 && t.pc == 4) = true := by decide

/-! ### Witnesses: for each obligation with hypotheses, a state and operands that meet them -/

/-- In user mode. -/
def userState : State := { State.reset with psw := 0x0008 }

/-- With R1 = `v`. -/
def withR1 (v : Word) : State := State.reset.setReg 1 v

/-- After the first write of EVB. -/
def evbWrittenState : State := { State.reset with evbWritten := true }

theorem quiet_start (w p : Word) : ((start w 0 []).goto p).Quiet := ⟨rfl, rfl, rfl⟩

theorem witness_DecodeUndoesEncode : (Instr.rac .a1 .a0 2).wf = true ∧ (Instr.rach .a0 .a1 1).wf = true := by decide

theorem witness_EncodeUndoesDecode : decode16 0xF000 = .ok .nop ∧ decode32 0xFFFFFFFF = .ok (.bra24 0xFFFFFF) := by
  decide

/-- The four places of an instruction: a 32-bit one, the two halves of a sequential word, a pair. -/
theorem witness_StepRunsTheDecodedInstruction :
    (∃ (s : State) (i : Instr), s.Quiet ∧ s.pc.extractLsb' 0 2 = 0 ∧ isWide s.fetchWord = true ∧
      decode32 s.fetchWord = .ok i) ∧
    (∃ (s : State) (i : Instr), s.Quiet ∧ s.pc.extractLsb' 0 2 = 0 ∧ isWide s.fetchWord = false ∧
      isParallel s.fetchWord = false ∧ decode16 (upperHalf s.fetchWord) = .ok i) ∧
    (∃ (s : State) (i : Instr), s.Quiet ∧ s.pc.extractLsb' 0 2 = 2 ∧ isWide s.fetchWord = false ∧
      isParallel s.fetchWord = false ∧ decode16 (lowerHalf s.fetchWord) = .ok i) ∧
    (∃ (s : State) (i sd : Instr), s.Quiet ∧ s.pc.extractLsb' 0 2 = 0 ∧ isWide s.fetchWord = false ∧
      isParallel s.fetchWord = true ∧ decode16 (upperHalf s.fetchWord) = .ok i ∧
      decode16 (lowerHalf s.fetchWord) = .ok sd) :=
  ⟨⟨(start 0xE2123456 0 []).goto 0x1000, .ld24 2 0x123456, quiet_start _ _, by decide⟩,
   ⟨(start 0x61057000 0 []).goto 0x1000, .ldi8 1 5, quiet_start _ _, by decide⟩,
   ⟨(start 0x70006105 0 []).goto 0x1002, .ldi8 1 5, quiet_start _ _, by decide⟩,
   ⟨(start 0x11809281 0 []).goto 0x1000, .mv 1 0, .mv 2 1, quiet_start _ _, by decide⟩⟩

/-- A reserved word, and a reserved halfword in each of its places. -/
theorem witness_ReservedEncodingsRaiseRie :
    (∃ (s : State) (d : DecodeError), s.Quiet ∧ s.pc.extractLsb' 0 2 = 0 ∧ isWide s.fetchWord = true ∧
      decode32 s.fetchWord = .error d) ∧
    (∃ (s : State) (d : DecodeError), s.Quiet ∧ s.pc.extractLsb' 0 2 = 0 ∧ isWide s.fetchWord = false ∧
      decode16 (upperHalf s.fetchWord) = .error d) ∧
    (∃ (s : State) (d : DecodeError), s.Quiet ∧ s.pc.extractLsb' 0 2 = 0 ∧ isWide s.fetchWord = false ∧
      isParallel s.fetchWord = true ∧ decode16 (lowerHalf s.fetchWord) = .error d) ∧
    (∃ (s : State) (d : DecodeError), s.Quiet ∧ s.pc.extractLsb' 0 2 = 2 ∧ isWide s.fetchWord = false ∧
      isParallel s.fetchWord = false ∧ decode16 (lowerHalf s.fetchWord) = .error d) :=
  ⟨⟨(start 0xC0000000 0 []).goto 0x1000, .reserved32, quiet_start _ _, by decide⟩,
   ⟨(start 0x70017000 0 []).goto 0x1000, .reserved16, quiet_start _ _, by decide⟩,
   ⟨(start 0x7000F001 0 []).goto 0x1000, .reserved16, quiet_start _ _, by decide⟩,
   ⟨(start 0x70007001 0 []).goto 0x1002, .reserved16, quiet_start _ _, by decide⟩⟩

/-- The three requests, one at a time and all at once, and none. -/
theorem witness_BoundaryPriority :
    (∃ s : State, s.resetReq = true ∧ s.intReq = true ∧ s.copIntReq = true) ∧
    (∃ s : State, s.resetReq = false ∧ s.intReq = true ∧ s.ie = true ∧ s.copIntReq = true) ∧
    (∃ s : State, s.resetReq = false ∧ (s.intReq && s.ie) = false ∧ s.intReq = true ∧ s.copIntReq = true ∧
      s.ce = true) ∧
    (∃ s : State, s.resetReq = false ∧ (s.intReq && s.ie) = false ∧ (s.copIntReq && s.ce) = false ∧
      s.copIntReq = true) :=
  ⟨⟨{ State.reset with resetReq := true, intReq := true, copIntReq := true }, by decide⟩,
   ⟨{ State.reset with intReq := true, copIntReq := true, psw := 0x44 }, by decide⟩,
   ⟨{ State.reset with intReq := true, copIntReq := true, psw := 0x04 }, by decide⟩,
   ⟨{ State.reset with intReq := true, copIntReq := true, psw := 0 }, by decide⟩⟩

/-- Each stop happens: an odd PC, and the six refusals. -/
theorem witness_StepStopsOnlyWhereTheSpecRefuses :
    step ((start 0x70007000 0 []).goto 0x1001) = .fault .oddPc ∧
    step (start 0x1194F000 0 []) = .refused (.noControlRegister 4) ∧
    step (start 0x7000A0C1 0 []) = .refused .pairPlacement ∧
    step ((start 0xE2123456 0 []).goto 0x1002) = .refused .insideWideInstruction ∧
    step ((start 0x7000F000 0 []).goto 0x1002) = .refused .insideParallelPair ∧
    step { start 0x15A17000 0 [] with evbWritten := true } = .refused .evbAlreadyWritten ∧
    step (start 0x21E17000 0 [(1, 0x2000)]) = .refused .registerWrittenTwice :=
  ⟨rfl, rfl, rfl, rfl, rfl, rfl, rfl⟩

/-- A lower half of a 32-bit word and of a pair; the four bad placements; the register numbers 4, 7 and 15; a second write
of EVB, `LD R1,@R1+` and a bad number, each on the upper side of an allowed pair. -/
theorem witness_UndefinedSituationsAreRefused :
    (∃ s : State, s.Quiet ∧ s.pc.extractLsb' 0 2 = 2 ∧ isWide s.fetchWord = true) ∧
    (∃ s : State, s.Quiet ∧ s.pc.extractLsb' 0 2 = 2 ∧ isWide s.fetchWord = false ∧ isParallel s.fetchWord = true) ∧
    (Instr.ld 1 2).pipe = .left ∧ (Instr.seth 1 2).pipe = .wide ∧
    ((Instr.mul 1 2).pipe = .right ∧ Instr.mv 1 2 ≠ .nop) ∧
    isControlRegister 4 = false ∧ isControlRegister 7 = false ∧ isControlRegister 15 = false ∧
    State.reset.pm = false ∧ evbWrittenState.pm = false ∧ evbWrittenState.evbWritten = true ∧
    ((withR1 0xFFFFFFFC).reg 1).toNat % 4 = 0 ∧
    refuses (.mvfc 1 4) State.reset = some (.noControlRegister 4) ∧ pairAllowed (.mvfc 1 4) .nop = true ∧
    refuses (.mvtc 1 5) evbWrittenState = some .evbAlreadyWritten ∧ pairAllowed (.mvtc 1 5) (.mul 3 4) = true ∧
    refuses (.ldInc 1 1) (withR1 0xFFFFFFFC) = some .registerWrittenTwice ∧
    pairAllowed (.ldInc 1 1) (.mv 3 4) = true :=
  ⟨⟨(start 0xE2123456 0 []).goto 0x1002, quiet_start _ _, by decide⟩,
   ⟨(start 0x7000F000 0 []).goto 0x1002, quiet_start _ _, by decide⟩, by decide⟩

theorem witness_PlacedInstructionRuns :
    (Instr.rac .a1 .a0 2).wf = true ∧ encode (.rac .a1 .a0 2) = .half 0x5491 ∧
    (Instr.ld24 2 0x123456).wf = true ∧ encode (.ld24 2 0x123456) = .word 0xE2123456 := by decide

theorem witness_EntrySequence : Event.ei ≠ .ri ∧ Event.cpi ≠ .ri ∧ Event.trap 15 ≠ .ri := by decide

theorem witness_RteRestores : State.reset.pm = false := by decide

theorem witness_PrivilegedInstructionsRaisePieInUserMode : userState.pm = true := by decide

/-- The three exceptions, on the upper side of an allowed pair. -/
theorem witness_ExceptionsArePrecise :
    raises .rte userState = some .pie ∧ pairAllowed .rte .nop = true ∧
    raises (.ld 2 1) (withR1 2) = some .ae ∧ pairAllowed (.ld 2 1) (.mul 3 4) = true ∧
    raises (.ldh 2 1) (withR1 1) = some .ae ∧
    raises (.mvtcp 1 2 5 15) State.reset = some .cde := by decide

/-- The last register number, EVB not yet written, a post-increment of another register and off a word boundary. -/
theorem witness_EveryInstructionCompletes :
    refuses (.mvfc 1 6) State.reset = none ∧ refuses (.mvtc 1 5) State.reset = none ∧
    refuses (.ldInc 2 1) (withR1 0xFFFFFFFC) = none ∧ refuses (.ldInc 1 1) (withR1 2) = none ∧
    refuses .rte userState = none := by decide

/-- A store, a control register write and a multiply that raise nothing and complete. -/
theorem witness_EveryInstructionKeepsItsFrame :
    (∃ (s t : State), raises (.stPreDec 14 15) s = none ∧ (∀ n, Instr.stPreDec 14 15 ≠ .trap n) ∧
      exec (.stPreDec 14 15) s = .next t) ∧
    (∃ (s t : State), raises (.setpsw 0xFF) s = none ∧ (∀ n, Instr.setpsw 0xFF ≠ .trap n) ∧
      exec (.setpsw 0xFF) s = .next t) ∧
    (∃ (s t : State), raises (.mul 1 2) s = none ∧ (∀ n, Instr.mul 1 2 ≠ .trap n) ∧ exec (.mul 1 2) s = .next t) :=
  ⟨⟨State.reset, _, by decide, by decide, rfl⟩, ⟨State.reset, _, by decide, by decide, rfl⟩,
   ⟨State.reset, _, by decide, by decide, rfl⟩⟩

/-- In user mode with either stack pointer. -/
theorem witness_UserModeIsConfined :
    (∃ (s t : State), s.pm = true ∧ s.sm = false ∧ raises (.addv 15 1) s = none ∧
      (∀ n, Instr.addv 15 1 ≠ .trap n) ∧ exec (.addv 15 1) s = .next t) ∧
    (∃ (s t : State), s.pm = true ∧ s.sm = true ∧ raises (.addv 15 1) s = none ∧
      (∀ n, Instr.addv 15 1 ≠ .trap n) ∧ exec (.addv 15 1) s = .next t) :=
  ⟨⟨userState, _, by decide, by decide, by decide, by decide, rfl⟩,
   ⟨{ State.reset with psw := 0x0088 }, _, by decide, by decide, by decide, by decide, rfl⟩⟩

/-- From user mode: a reset, a trap, an interrupt. -/
theorem witness_SupervisorModeIsEnteredByEitOnly :
    (∃ (s t : State), s.pm = true ∧ s.resetReq = true ∧ step s = .next t ∧ t.pm = false) ∧
    (∃ (s t : State), s.pm = true ∧ s.resetReq = false ∧ step s = .next t ∧ t.pm = false) ∧
    (∃ (s t : State), s.pm = true ∧ s.intReq = true ∧ s.ie = true ∧ s.resetReq = false ∧ step s = .next t ∧
      t.pm = false) :=
  ⟨⟨{ userState with resetReq := true }, _, by decide, by decide, rfl, by simp [State.pm, State.takeReset]⟩,
   ⟨start 0x10F07000 0x0008 [], _, by decide, by decide, rfl, by decide⟩,
   ⟨{ State.reset with psw := 0x0048, intReq := true }, _, by decide, by decide, by decide, by decide, rfl, by
      simp only [State.enter, State.pm, entryPsw]
      split <;> decide⟩⟩

/-- The state after reset and the states after its first step. -/
theorem witness_EveryStepKeepsTheInvariant : State.reset.Inv ∧ ∃ t, step State.reset = .next t :=
  ⟨⟨by decide, by decide, by decide, by decide, by decide⟩, _, rfl⟩

theorem witness_ResetEstablishesTheResetState : { State.reset with resetReq := true }.resetReq = true := by decide

/-- Both stack modes, and the last register that is not R15. -/
theorem witness_StackPointerIsBanked :
    State.reset.sm = false ∧ { State.reset with psw := 0x80 }.sm = true ∧ (14 : Reg) ≠ 15 := by decide

theorem witness_MvtcWritesControlRegisters : State.reset.pm = false ∧ State.reset.evbWritten = false := by decide

/-- EVB not written, and written; a step that is no reset after it. -/
theorem witness_VectorBaseIsWrittenOnce :
    (State.reset.pm = false ∧ State.reset.evbWritten = false) ∧
    (evbWrittenState.pm = false ∧ evbWrittenState.evbWritten = true) ∧
    ∃ t, evbWrittenState.resetReq = false ∧ step evbWrittenState = .next t := ⟨by decide, by decide, _, rfl, rfl⟩

/-- An address outside the four, and the two, bytes; also where they wrap past the top of the space. -/
theorem witness_StoresAreBigEndian :
    (4 : Word) ∉ wordBytes 0 ∧ (3 : Word) ∉ wordBytes 0xFFFFFFFF ∧ (0xFFFFFFFE : Word) ∉ wordBytes 0xFFFFFFFF ∧
    (2 : Word) ∉ halfBytes 0 := by decide

/-- Aligned at both ends of the space, off by 1, 2 and 3, and by the displacement. -/
theorem witness_WordLoads :
    ((withR1 0xFFFFFFFC).reg 1).toNat % 4 = 0 ∧ ((withR1 0).reg 1).toNat % 4 = 0 ∧ (2 : Reg) ≠ 1 ∧
    ((withR1 1).reg 1).toNat % 4 ≠ 0 ∧ ((withR1 2).reg 1).toNat % 4 ≠ 0 ∧ ((withR1 0xFFFFFFFF).reg 1).toNat % 4 ≠ 0 ∧
    ((withR1 2).reg 1 + (0xFFFE : BitVec 16).signExtend 32).toNat % 4 = 0 ∧
    ((withR1 0).reg 1 + (0x7FFF : BitVec 16).signExtend 32).toNat % 4 ≠ 0 := by decide

theorem witness_ByteAndHalfwordLoads :
    ((withR1 0xFFFFFFFE).reg 1).toNat % 2 = 0 ∧ ((withR1 0xFFFFFFFF).reg 1).toNat % 2 ≠ 0 ∧
    ((withR1 1).reg 1 + (0xFFFF : BitVec 16).signExtend 32).toNat % 2 = 0 ∧
    ((withR1 0).reg 1 + (0x7FFF : BitVec 16).signExtend 32).toNat % 2 ≠ 0 := by decide

theorem witness_WordStores :
    ((withR1 0xFFFFFFFC).reg 1).toNat % 4 = 0 ∧ ((withR1 0).reg 1).toNat % 4 = 0 ∧
    ((withR1 1).reg 1).toNat % 4 ≠ 0 ∧ ((withR1 2).reg 1).toNat % 4 ≠ 0 ∧ ((withR1 3).reg 1).toNat % 4 ≠ 0 ∧
    ((withR1 2).reg 1 + (0xFFFE : BitVec 16).signExtend 32).toNat % 4 = 0 ∧
    ((withR1 0).reg 1 + (0x7FFE : BitVec 16).signExtend 32).toNat % 4 ≠ 0 := by decide

theorem witness_ByteAndHalfwordStores :
    ((withR1 0xFFFFFFFE).reg 1).toNat % 2 = 0 ∧ ((withR1 0xFFFFFFFF).reg 1).toNat % 2 ≠ 0 ∧
    ((withR1 1).reg 1 + (0xFFFF : BitVec 16).signExtend 32).toNat % 2 = 0 ∧
    ((withR1 0).reg 1 + (0x7FFF : BitVec 16).signExtend 32).toNat % 2 ≠ 0 := by decide

/-- LOCK = 1 and LOCK = 0 at an aligned address, and a misaligned address. -/
theorem witness_UnlockStoresOnlyWhenLocked :
    (({ withR1 0xFFFFFFFC with lock := true }.reg 1).toNat % 4 = 0 ∧ { withR1 0xFFFFFFFC with lock := true }.lock = true) ∧
    (((withR1 0).reg 1).toNat % 4 = 0 ∧ (withR1 0).lock = false) ∧ ((withR1 2).reg 1).toNat % 4 ≠ 0 := by decide

/-- A divisor 0, a divisor that is not 0, the overflow of DIV and both of its near misses. -/
theorem witness_QuotientsRoundTowardZero :
    ¬ ((-2147483647 : Int) = -2147483648 ∧ (-1 : Int) = -1) ∧
    (((withR1 0x80000000).reg 1).toInt = -2147483648 ∧ ((withR1 0xFFFFFFFF).reg 1).toInt = -1) ∧
    ¬ (((withR1 0x80000000).reg 1).toInt = -2147483648 ∧ ((withR1 0x80000000).reg 1).toInt = -1) ∧
    (State.reset.reg 2).toInt = 0 ∧ ((withR1 0x80000000).reg 1).toInt ≠ 0 := by decide

/-- The overflow operands of DIV in one state. -/
theorem witness_QuotientsRoundTowardZero_overflow :
    (((withR1 0x80000000).setReg 2 0xFFFFFFFF).reg 1).toInt = -2147483648 ∧
    (((withR1 0x80000000).setReg 2 0xFFFFFFFF).reg 2).toInt = -1 := by decide

theorem witness_RemaindersHaveTheSignOfTheDividend :
    (State.reset.reg 1).toInt = 0 ∧ ((withR1 0x80000000).reg 1).toInt ≠ 0 ∧ ((withR1 0xFFFFFFFF).reg 1).toNat ≠ 0 := by
  decide

/-- Both outcomes of every condition: C, equality, and a negative, a zero and a positive register. -/
theorem witness_BranchesGoToTheirTargets :
    { State.reset with psw := 1 }.c = true ∧ State.reset.c = false ∧ (withR1 5).reg 1 ≠ (withR1 5).reg 2 ∧
    State.reset.reg 1 = State.reset.reg 2 ∧ ((withR1 0x80000000).reg 1).toInt < 0 ∧
    ((withR1 0).reg 1).toInt = 0 ∧ 0 < ((withR1 0x7FFFFFFF).reg 1).toInt := by decide

theorem witness_CallsLinkOnlyWhenTaken : { State.reset with psw := 1 }.c = true ∧ State.reset.c = false := by decide

/-- The upper half of a sequential word and a lower half. -/
theorem witness_NopAndSequentialSkips :
    ((start 0x74014101 0 []).pc.extractLsb' 0 2 = 0 ∧ (start 0x74014101 0 []).parallelBit = false) ∧
    ((start 0x74014101 0 []).goto 0x1002).pc.extractLsb' 0 2 = 2 := by decide

theorem witness_PswImmediates : State.reset.pm = false := by decide

/-- The three ranges of RAC and of RACH, at their bounds. -/
theorem witness_RoundingSaturates :
    140737488289792 < { State.reset with acc0 := 0x003FFFFFFFC000 }.accInt .a0 * 2 ^ 1 + 32768 ∧
    { State.reset with acc0 := 0xFFBFFFFFFFBFFF }.accInt .a0 * 2 ^ 1 + 32768 < -140737488355328 ∧
    (-140737488355328 ≤ { State.reset with acc0 := 0xFFBFFFFFFFC000 }.accInt .a0 * 2 ^ 1 + 32768 ∧
      { State.reset with acc0 := 0x003FFFFFFF4000 }.accInt .a0 * 2 ^ 1 + 32768 ≤ 140737488289792) ∧
    140733193388032 < { State.reset with acc0 := 0x003FFFC0000000 }.accInt .a0 * 2 ^ 1 + 2147483648 ∧
    { State.reset with acc0 := 0xFFBFFFBFFFFFFF }.accInt .a0 * 2 ^ 1 + 2147483648 < -140737488355328 ∧
    (-140737488355328 ≤ { State.reset with acc0 := 0xFFBFFFC0000000 }.accInt .a0 * 2 ^ 1 + 2147483648 ∧
      { State.reset with acc0 := 0x003FFF40000000 }.accInt .a0 * 2 ^ 1 + 2147483648 ≤ 140733193388032) := by decide

/-- Coprocessor 15 enabled, and not enabled. -/
theorem witness_CoprocessorInstructions :
    { State.reset with copEnabled := 0x8000 }.copEnabled.getLsbD (15 : CpNum).val = true ∧
    State.reset.copEnabled.getLsbD (15 : CpNum).val = false := by decide

theorem witness_PairWithNopIsTheInstructionAlone :
    (Instr.rte).pipe ≠ .wide ∧ (Instr.mv 1 2).pipe ≠ .wide ∧ (Instr.mul 1 2).pipe ≠ .wide ∧
    (start 0x1081F000 0 []).pc.extractLsb' 0 2 = 0 ∧ (start 0x1081F000 0 []).parallelBit = true := by decide

theorem witness_LowerInstructionsWriteRegistersOnly :
    (Instr.addx 1 2).pipe = .both ∧ (Instr.mul 1 2).pipe = .right := by decide

/-- A pair with no collision, and one whose lower instruction writes a register the upper one does not and C. -/
theorem witness_PairsReadTheStateBefore :
    ∃ (s sO sS : State), pairAllowed (.mv 1 0) (.addx 2 1) = true ∧ raises (.mv 1 0) s = none ∧
      cancels (.mv 1 0) s = false ∧ exec (.mv 1 0) s = .next sO ∧ exec (.addx 2 1) s = .next sS ∧
      s.cellOf 2 ∈ regWrites (.addx 2 1) s ∧ s.cellOf 2 ∉ claims (.mv 1 0) s ∧
      s.cellOf 1 ∉ regWrites (.addx 2 1) s ∧ writesC (.addx 2 1) = true ∧ writesC (.mv 1 0) = false :=
  ⟨State.reset, _, _, by decide, by decide, by decide, rfl, rfl, by decide⟩

/-- A partner, at a word boundary, in a pair, with C = 1 and with C = 0. -/
theorem witness_SkipsCancelThePartner :
    (∃ s u : State, (Instr.mv 0 1).pipe = .both ∧ s.pc.extractLsb' 0 2 = 0 ∧ s.parallelBit = true ∧ s.c = true ∧
      exec (.mv 0 1) s = .next u) ∧
    (∃ s u : State, (Instr.mv 0 1).pipe = .both ∧ s.pc.extractLsb' 0 2 = 0 ∧ s.parallelBit = true ∧ s.c = false ∧
      exec (.mv 0 1) s = .next u) :=
  ⟨⟨start 0x75019081 1 [], _, by decide, by decide, by decide, by decide, rfl⟩,
   ⟨start 0x75019081 0 [], _, by decide, by decide, by decide, by decide, rfl⟩⟩

theorem witness_TrapInPairExecutesThePartner :
    ∃ s u : State, (Instr.cmp 3 4).pipe = .both ∧ s.pc.extractLsb' 0 2 = 0 ∧ s.parallelBit = true ∧
      exec (.cmp 3 4) s = .next u :=
  ⟨start 0x10F18344 0 [], _, by decide, by decide, by decide, rfl⟩

end Sys2Proof.Machine
end

/-! ## Every instruction completes where the spec does not refuse it (00_scope.md R2)

Each meaning ends in a next state, alone or after one check of alignment, mode or coprocessor; a failed check is an EIT
entry, which is a next state too. Only MVFC, MVTC and `LD Rdest,@Rsrc+` can be refused, and for these the hypothesis of
`refuses` rules out the refusing branch. -/

namespace Sys2Proof.Machine

/-- The result is a next state, neither a fault nor a refusal. -/
def Completes (r : Result) : Prop := ∃ t, r = .next t

theorem completes_next (t : State) : Completes (.next t) := ⟨t, rfl⟩

/-! ### Checks: a failed one completes by its exception -/

theorem completes_ifAligned {s : State} {ea : Word} {n : Nat} {r : Result}
    (h : aligned ea n = true → Completes r) : Completes (s.ifAligned ea n r) := by
  cases ha : aligned ea n with
  | true => rw [ifAligned_pos ha]; exact h ha
  | false => rw [ifAligned_neg ha]; exact completes_next _

theorem completes_ifSupervisor {s : State} {r : Result} (h : s.pm = false → Completes r) :
    Completes (s.ifSupervisor r) := by
  cases hp : s.pm with
  | true => rw [ifSupervisor_neg hp]; exact completes_next _
  | false => rw [ifSupervisor_pos hp]; exact h hp

theorem completes_ifCoprocessor {s : State} {n : CpNum} {r : Result} (h : Completes r) :
    Completes (s.ifCoprocessor n r) := by
  cases hc : s.copOn n with
  | true => rw [ifCoprocessor_pos hc]; exact h
  | false => rw [ifCoprocessor_neg hc]; exact completes_next _

/-! ### When `refuses` says nothing about the three instructions it names -/

theorem refuses_mvfc_eq_none {dest : Reg} {cr : CrNum} {s : State} :
    refuses (.mvfc dest cr) s = none ↔ isControlRegister cr = true := by
  simp [refuses]

theorem refuses_mvtc_eq_none {src : Reg} {cr : CrNum} {s : State} (hp : s.pm = false) :
    refuses (.mvtc src cr) s = none ↔ isControlRegister cr = true ∧ ¬ (cr = 5 ∧ s.evbWritten = true) := by
  cases hcr : isControlRegister cr <;> simp [refuses, hp, hcr]

theorem refuses_ldInc_eq_none {dest src : Reg} {s : State} :
    refuses (.ldInc dest src) s = none ↔ ¬ (dest = src ∧ aligned (s.eaReg src) 4 = true) := by
  simp [refuses, aligned, State.eaReg]

/-! ### The instructions that can be refused -/

theorem execMvfc_completes {dest : Reg} {cr : CrNum} {s : State} (h : isControlRegister cr = true) :
    Completes (execMvfc dest cr s) := by
  obtain ⟨v, hv⟩ := Option.isSome_iff_exists.mp ((readCr_isSome s cr).trans h)
  unfold execMvfc
  rw [hv]
  exact completes_next _

theorem execMvtc_completes {src : Reg} {cr : CrNum} {s : State}
    (h : s.pm = false → isControlRegister cr = true ∧ ¬ (cr = 5 ∧ s.evbWritten = true)) :
    Completes (execMvtc src cr s) := by
  refine completes_ifSupervisor fun hp => ?_
  obtain ⟨hcr, hevb⟩ := h hp
  split
  · exact completes_next _
  · next r hr =>
    obtain ⟨h5, hw, -⟩ | ⟨hno, -⟩ := writeCr_error hr
    · exact absurd ⟨h5, hw⟩ hevb
    · exact absurd (hcr.symm.trans hno) Bool.noConfusion

theorem execLdInc_completes {dest src : Reg} {s : State}
    (h : ¬ (dest = src ∧ aligned (s.eaReg src) 4 = true)) : Completes (execLdInc dest src s) := by
  refine completes_ifAligned fun ha => ?_
  rw [if_neg fun hd => h ⟨hd, ha⟩]
  exact completes_next _

/-! ### Every instruction -/

/-- DIV chooses between two next states: an unspecified quotient on overflow (U13), else the division. -/
theorem execDiv_completes (dest src : Reg) (s : State) : Completes (execDiv dest src s) := by
  unfold execDiv
  split <;> exact completes_next _

/-- The cases are grouped by the check the meaning makes; the last group makes none. -/
theorem exec_completes {i : Instr} {s : State} (h : refuses i s = none) : Completes (exec i s) := by
  cases i with
  | mvfc => exact execMvfc_completes (refuses_mvfc_eq_none.mp h)
  | mvtc => exact execMvtc_completes fun hp => (refuses_mvtc_eq_none hp).mp h
  | ldInc => exact execLdInc_completes (refuses_ldInc_eq_none.mp h)
  | ld | ldh | lduh | lock | ldDisp | ldhDisp | lduhDisp
  | st | stPreInc | stPreDec | stDisp | sth | sthInc | sthDisp | unlock =>
    exact completes_ifAligned fun _ => completes_next _
  | rte | setpsw | clrpsw => exact completes_ifSupervisor fun _ => completes_next _
  | mvfcp | mvtcp | opecp => exact completes_ifCoprocessor (completes_next _)
  | div => exact execDiv_completes _ _ _
  | _ => exact completes_next _

/-- Settles O18, by the cases of the instruction. -/
theorem everyInstructionCompletes : Obligations.EveryInstructionCompletes :=
  fun _ _ h => exec_completes h

end Sys2Proof.Machine

/-! ## R15 names the stack pointer that SM selects (10_state.md R22) -/

namespace Sys2Proof.Machine

theorem State.cellOf_sp (s : State) : s.cellOf 15 = if s.sm then .spu else .spi := by
  simp [State.cellOf]

theorem State.cellOf_gpr (s : State) {r : Reg} (h : r.val < 15) : s.cellOf r = .gpr ⟨r.val, h⟩ := by
  simp [State.cellOf, h]

theorem reg_lt_of_ne_sp {r : Reg} (h : r ≠ 15) : r.val < 15 :=
  Nat.lt_of_le_of_ne (Nat.le_of_lt_succ r.isLt) fun e => h (Fin.ext e)

/-- The storage that R15 names is none of R0-R14. -/
theorem State.cellOf_sp_ne_gpr (s : State) (n : Fin 15) : s.cellOf 15 ≠ .gpr n := by
  rw [State.cellOf_sp]
  split <;> exact Cell.noConfusion

/-- Two register numbers never share storage. -/
theorem State.cellOf_injective (s : State) {r r' : Reg} (h : s.cellOf r' = s.cellOf r) : r' = r := by
  by_cases hr : r = 15 <;> by_cases hr' : r' = 15
  · rw [hr, hr']
  · rw [hr, s.cellOf_gpr (reg_lt_of_ne_sp hr')] at h
    exact absurd h.symm (s.cellOf_sp_ne_gpr _)
  · rw [hr', s.cellOf_gpr (reg_lt_of_ne_sp hr)] at h
    exact absurd h (s.cellOf_sp_ne_gpr _)
  · rw [s.cellOf_gpr (reg_lt_of_ne_sp hr), s.cellOf_gpr (reg_lt_of_ne_sp hr')] at h
    exact Fin.ext (by simpa using h)

theorem State.setReg_reg (s : State) (r r' : Reg) (v : Word) :
    (s.setReg r v).reg r' = if r' = r then v else s.reg r' := by
  split
  · next h => rw [h, State.setReg_reg_same]
  · next h =>
    have hc : s.cellOf r' ≠ s.cellOf r := fun e => h (s.cellOf_injective e)
    simp [State.reg, State.setReg_cell, hc]

theorem State.setReg_spi (s : State) (r : Reg) (v : Word) :
    (s.setReg r v).spi = if .spi = s.cellOf r then v else s.spi := s.setReg_cell r .spi v

theorem State.setReg_spu (s : State) (r : Reg) (v : Word) :
    (s.setReg r v).spu = if .spu = s.cellOf r then v else s.spu := s.setReg_cell r .spu v

/-- Settles O25, from the storage that each register number names. -/
theorem stackPointerIsBanked : Obligations.StackPointerIsBanked := by
  intro s v
  refine ⟨fun hs => ?_, fun hs => ?_, fun r r' => s.setReg_reg r r' v, fun r hr => ?_⟩
  · simp [State.reg, State.cell, State.setReg_spi, State.setReg_spu, State.cellOf_sp, hs]
  · simp [State.reg, State.cell, State.setReg_spi, State.setReg_spu, State.cellOf_sp, hs]
  · simp [State.setReg_spi, State.setReg_spu, s.cellOf_gpr (reg_lt_of_ne_sp hr)]

end Sys2Proof.Machine

/-! ## What is refused, and that nothing else stops a step (93_implementation_defined.md U7, U10, U12, U15, U16) -/

namespace Sys2Proof.Machine

/-! ### The instructions that `refuses` names -/

theorem readCr_eq_none {s : State} {cr : CrNum} (h : isControlRegister cr = false) : s.readCr cr = none :=
  Option.isSome_eq_false_iff.mp ((readCr_isSome s cr).trans h) |> Option.isNone_iff_eq_none.mp

theorem writeCr_of_not_isControlRegister {s : State} {cr : CrNum} (v : Word) (h : isControlRegister cr = false) :
    s.writeCr cr v = .error (.noControlRegister cr) := by
  revert cr
  simp [Fin.forall_fin_succ, isControlRegister, State.writeCr]

theorem writeCr_evb_of_written {s : State} (v : Word) (h : s.evbWritten = true) :
    s.writeCr 5 v = .error .evbAlreadyWritten := by
  simp [State.writeCr, State.writeEvb, h]

theorem execMvfc_of_not_isControlRegister {dest : Reg} {cr : CrNum} {s : State} (h : isControlRegister cr = false) :
    execMvfc dest cr s = .refused (.noControlRegister cr) := by
  simp [execMvfc, readCr_eq_none h]

theorem execMvtc_of_writeCr_error {src : Reg} {cr : CrNum} {s : State} {r : Refusal} (hp : s.pm = false)
    (h : s.writeCr cr (s.reg src) = .error r) : execMvtc src cr s = .refused r := by
  rw [execMvtc, ifSupervisor_pos hp, h]

theorem execLdInc_same {r : Reg} {s : State} (h : aligned (s.eaReg r) 4 = true) :
    execLdInc r r s = .refused .registerWrittenTwice := by
  rw [execLdInc, ifAligned_pos h, if_pos rfl]

/-- What `refuses` names raises nothing and is refused. -/
theorem exec_of_refuses {i : Instr} {s : State} {r : Refusal} (h : refuses i s = some r) :
    raises i s = none ∧ exec i s = .refused r := by
  cases i with
  | mvfc dest cr =>
    cases hc : isControlRegister cr <;> simp [refuses, hc] at h
    exact ⟨rfl, h ▸ execMvfc_of_not_isControlRegister hc⟩
  | mvtc src cr =>
    cases hp : s.pm <;> simp [refuses, hp] at h
    refine ⟨by simp [raises, hp], execMvtc_of_writeCr_error hp ?_⟩
    cases hc : isControlRegister cr <;> simp [hc] at h
    · exact h ▸ writeCr_of_not_isControlRegister _ hc
    · obtain ⟨⟨rfl, hw⟩, rfl⟩ := h
      exact writeCr_evb_of_written _ hw
  | ldInc dest src =>
    simp [refuses] at h
    obtain ⟨⟨rfl, hm⟩, rfl⟩ := h
    have ha : aligned (s.eaReg dest) 4 = true := by simpa [aligned, State.eaReg] using hm
    exact ⟨by simp [raises, ha], execLdInc_same ha⟩
  | _ => cases h

/-- Only instructions of the left side can be refused. -/
theorem refuses_eq_none_of_pipe {i : Instr} {s : State} (h : i.pipe ≠ .left) : refuses i s = none := by
  cases i with
  | mvfc | mvtc | ldInc => exact absurd rfl h
  | _ => rfl

/-- An instruction answers a next state, or it is refused where `refuses` says so. -/
theorem exec_next_or_refused (i : Instr) (s : State) :
    (∃ t, exec i s = .next t) ∨ ∃ r, refuses i s = some r ∧ exec i s = .refused r := by
  cases h : refuses i s with
  | none => exact .inl (exec_completes h)
  | some r => exact .inr ⟨r, rfl, (exec_of_refuses h).2⟩

/-! ### Pairs -/

theorem execPair_of_not_allowed {o sd : Instr} {s : State} (h : pairAllowed o sd = false) :
    execPair o sd s = .refused .pairPlacement := by
  simp [execPair, h]

/-- A refusal on the upper side refuses the pair. -/
theorem execPair_of_refuses {o sd : Instr} {s : State} {r : Refusal} (hp : pairAllowed o sd = true)
    (h : refuses o s = some r) : execPair o sd s = .refused r := by
  obtain ⟨hn, he⟩ := exec_of_refuses h
  simp [execPair, hp, hn, he]

theorem ne_nop_of_pipe {i : Instr} (h : i.pipe ≠ .both) : i ≠ .nop := fun e => h (e ▸ rfl)

/-- The placements that R466 leaves out. -/
theorem pairAllowed_eq_false {o sd : Instr}
    (h : sd.pipe = .left ∨ sd.pipe = .wide ∨ o.pipe = .wide ∨ (o.pipe = .right ∧ sd ≠ .nop)) :
    pairAllowed o sd = false := by
  obtain hs | hs | ho | ⟨ho, hn⟩ := h
  · have hn : sd ≠ .nop := ne_nop_of_pipe (by simp [hs])
    cases ho : o.pipe <;> simp [pairAllowed, ho, hs, hn]
  · have hn : sd ≠ .nop := ne_nop_of_pipe (by simp [hs])
    cases ho : o.pipe <;> simp [pairAllowed, ho, hs, hn]
  · simp [pairAllowed, ho]
  · simp [pairAllowed, ho, hn]

/-- The lower side of an allowed pair is never refused. -/
theorem refuses_lower {o sd : Instr} {s : State} (h : pairAllowed o sd = true) : refuses sd s = none :=
  refuses_eq_none_of_pipe fun hl => Bool.noConfusion (h.symm.trans (pairAllowed_eq_false (.inl hl)))

/-- A pair answers a next state, or it is refused for its placement or for its upper instruction. -/
theorem execPair_next_or_refused (o sd : Instr) (s : State) :
    (∃ t, execPair o sd s = .next t) ∨ (pairAllowed o sd = false ∧ execPair o sd s = .refused .pairPlacement) ∨
      ∃ r, refuses o s = some r ∧ execPair o sd s = .refused r := by
  obtain ⟨hp, e⟩ | ⟨hp, ⟨ev, -, e⟩ | ⟨-, ⟨e, -⟩ | ⟨-, sO, -, ⟨-, hstop⟩ | ⟨sS, -, e⟩⟩⟩⟩ :=
    execPair_cases (rfl : execPair o sd s = _)
  · exact .inr (.inl ⟨hp, e⟩)
  · exact .inl ⟨_, e⟩
  · rw [e]
    exact (exec_next_or_refused o s).imp_right .inr
  · obtain ⟨t, ht⟩ := exec_completes (refuses_lower (s := s) hp)
    exact absurd ht (hstop t)
  · exact .inl ⟨_, e⟩

/-! ### Steps -/

theorem quiet_of_boundary_none {s : State} (h : s.boundary = none) : s.Quiet :=
  have ⟨hr, hi, hc⟩ := boundary_none h
  ⟨hr, hi, hc⟩

theorem boundary_of_quiet {s : State} (h : s.Quiet) : s.boundary = none := by
  simp [State.boundary, h.reset, h.int, h.cop]

theorem step_of_quiet {s : State} (h : s.Quiet) : step s = s.execute := by
  simp [step, boundary_of_quiet h]

theorem bit1_of_word_boundary {a : Word} (h : a.extractLsb' 0 2 = 0) : a.getLsbD 1 = false := by
  simpa using congrArg (fun x : BitVec 2 => x.getLsbD 1) h

/-- At the lower half of a word, that half is what is executed. -/
theorem execute_at_half {s : State} (h : s.pc.extractLsb' 0 2 = 2) : s.execute = runAtHalf s.fetchWord s := by
  have h0 : s.pc.getLsbD 0 = false := by
    simpa using congrArg (fun x : BitVec 2 => x.getLsbD 0) h
  have h1 : s.pc.getLsbD 1 = true := by
    simpa using congrArg (fun x : BitVec 2 => x.getLsbD 1) h
  simp only [State.execute, h0, h1, Bool.false_eq_true, if_false, if_true]

/-- Settles O10: the halves that are no sequential instruction, the placements, and `exec_of_refuses`, of which the last
part is the three situations written out. -/
theorem undefinedSituationsAreRefused : Obligations.UndefinedSituationsAreRefused := by
  refine ⟨fun s hq hpc => ?_, fun o sd s h => execPair_of_not_allowed (pairAllowed_eq_false h),
    fun i s r h => ⟨(exec_of_refuses h).2, fun sd hp => execPair_of_refuses hp h⟩, fun r cr s => ?_⟩
  · rw [step_of_quiet hq, execute_at_half hpc]
    exact ⟨fun hw => by simp [runAtHalf, hw], fun hw hp => by simp [runAtHalf, hw, hp]⟩
  · refine ⟨fun hc => ⟨(exec_of_refuses ?_).2, fun hp => (exec_of_refuses ?_).2⟩,
      fun hp hw => (exec_of_refuses ?_).2, fun hm => (exec_of_refuses ?_).2⟩
    · simp [refuses, hc]
    · simp [refuses, hc, hp]
    · simp [refuses, isControlRegister, hp, hw]
    · simp [refuses, hm]

/-- For a result that is a refusal, the two parts of O9 come to the situation of its one reason. -/
theorem stops_refused {res : Result} {r : Refusal} {s : State} {odd : Prop} {why : Refusal → Prop}
    (h : res = .refused r) (hq : s.Quiet) (heven : s.pc.getLsbD 0 = false) (hwhy : why r) :
    (∀ f, res = .fault f → odd) ∧ ∀ r', res = .refused r' → s.Quiet ∧ s.pc.getLsbD 0 = false ∧ why r' := by
  subst h
  refine ⟨by rintro _ ⟨⟩, ?_⟩
  rintro _ ⟨⟩
  exact ⟨hq, heven, hwhy⟩

/-- Settles O9, by the cases of what executing what stands at PC can do. -/
theorem stepStopsOnlyWhereTheSpecRefuses : Obligations.StepStopsOnlyWhereTheSpecRefuses := by
  intro s
  obtain ⟨t, -, e⟩ | ⟨hb, e⟩ := step_cases (rfl : step s = _)
  · simp [e]
  have hq := quiet_of_boundary_none hb
  rw [e]
  obtain ⟨hodd, e⟩ | ⟨heven, hcase⟩ := execute_cases (rfl : s.execute = _)
  · simp [e, hq, hodd]
  obtain e | ⟨i, -, hd, e⟩ | ⟨i, hw, hd, e⟩ | ⟨o, sd, hpc, hw, hp, ho, hs, e⟩ | ⟨hpc, hw, e⟩ |
    ⟨hpc, hw, hp, e⟩ := hcase
  · simp [e, State.raise]
  · have hpipe : i.pipe ≠ .left := by simp [decode32_wide hd]
    obtain ⟨t, ht⟩ := exec_completes (refuses_eq_none_of_pipe (s := s) hpipe)
    simp [e, ht]
  · obtain ⟨t, ht⟩ | ⟨r, hr, he⟩ := exec_next_or_refused i s
    · simp [e, ht]
    · exact stops_refused (e.trans he) hq heven (.inr (.inr (.inr ⟨i, hr, hw, hd⟩)))
  · obtain ⟨t, ht⟩ | ⟨hbad, he⟩ | ⟨r, hr, he⟩ := execPair_next_or_refused o sd s
    · simp [e, ht]
    · exact stops_refused (e.trans he) hq heven (.inl ⟨rfl, hpc, hw, hp, o, sd, ho, hs, hbad⟩)
    · exact stops_refused (e.trans he) hq heven
        (.inr (.inr (.inr ⟨o, hr, hw, by rwa [bit1_of_word_boundary hpc]⟩)))
  · exact stops_refused e hq heven (.inr (.inl ⟨rfl, hpc, hw⟩))
  · exact stops_refused e hq heven (.inr (.inr (.inl ⟨rfl, hpc, hw, hp⟩)))

end Sys2Proof.Machine

/-! ## What an instruction leaves unchanged (10_state.md R36, files 40 to 47) -/

namespace Sys2Proof.Machine

/-- If the result is a next state, that state has the property. -/
def Ensures (P : State → Prop) (r : Result) : Prop := ∀ t, r = .next t → P t

section Ensures

variable {P : State → Prop} {s : State} {r : Result}

theorem ensures_next {t : State} (h : P t) : Ensures P (.next t) := by
  rintro _ ⟨⟩
  exact h

theorem ensures_refused (e : Refusal) : Ensures P (.refused e) := by
  rintro _ ⟨⟩

theorem ensures_ifAligned {ea : Word} {n : Nat} (hr : Ensures P r)
    (he : aligned ea n = false → P (s.enter .ae s.pc)) : Ensures P (s.ifAligned ea n r) := by
  cases h : aligned ea n with
  | true => rwa [ifAligned_pos h]
  | false => rw [ifAligned_neg h]; exact ensures_next (he h)

theorem ensures_ifSupervisor (hr : Ensures P r) (he : s.pm = true → P (s.enter .pie s.pc)) :
    Ensures P (s.ifSupervisor r) := by
  cases h : s.pm with
  | true => rw [ifSupervisor_neg h]; exact ensures_next (he h)
  | false => rwa [ifSupervisor_pos h]

theorem ensures_ifCoprocessor {n : CpNum} (hr : Ensures P r)
    (he : s.copOn n = false → P (s.enter .cde s.pc)) : Ensures P (s.ifCoprocessor n r) := by
  cases h : s.copOn n with
  | true => rwa [ifCoprocessor_pos h]
  | false => rw [ifCoprocessor_neg h]; exact ensures_next (he h)

/-! The same when `raises` says that the check does not fail. -/

theorem ensures_ifAligned_of_raises {ea : Word} {n : Nat}
    (h : (if aligned ea n then none else some Event.ae) = none) (hr : Ensures P r) :
    Ensures P (s.ifAligned ea n r) :=
  ensures_ifAligned hr fun ha => by simp [ha] at h

theorem ensures_ifSupervisor_of_raises (h : (if s.pm then some Event.pie else none) = none) (hr : Ensures P r) :
    Ensures P (s.ifSupervisor r) :=
  ensures_ifSupervisor hr fun hp => by simp [hp] at h

theorem ensures_ifCoprocessor_of_raises {n : CpNum} (h : (if s.copOn n then none else some Event.cde) = none)
    (hr : Ensures P r) : Ensures P (s.ifCoprocessor n r) :=
  ensures_ifCoprocessor hr fun hc => by simp [hc] at h

end Ensures

/-! ### The frame of the updates that choose -/

section Frame

variable {w : Writes} {s t : State}

theorem KeepsBut.divideInto (h : KeepsBut w s t) {r : Reg} (hr : t.cellOf r ∈ w.regs) (n m : Int) :
    KeepsBut w s (t.divideInto r n m) := by
  unfold State.divideInto
  split
  · exact h
  · exact h.setReg hr _

theorem KeepsBut.remainderInto (h : KeepsBut w s t) {r : Reg} (hr : t.cellOf r ∈ w.regs) (n m : Int) :
    KeepsBut w s (t.remainderInto r n m) := by
  unfold State.remainderInto
  split
  · exact h
  · exact h.setReg hr _

theorem KeepsBut.destroyAccs (h : KeepsBut w s t) (h0 : .a0 ∈ w.accs) (h1 : .a1 ∈ w.accs) :
    KeepsBut w s t.destroyAccs :=
  ((h.setAcc h0 _).setAcc h1 _).useFree 2

theorem KeepsBut.linkTo (h : KeepsBut w s t) (hr : t.cellOf linkReg ∈ w.regs) (a : Word) :
    KeepsBut w s (t.linkTo a) :=
  (h.setReg hr _).goto a

end Frame

theorem bit0_of_eq_one {p : Word} (h : p = 1) : p.getLsbD 0 = true := by
  rw [h]
  decide

/-- One bit of SETPSW: `p` of PSW and `z` of the immediate, `kept` above the field,
`field` in it, or `absent`, with no storage. -/
theorem setPsw_bit_frame (p z : Bool) {kept field absent : Bool} (h : (kept || field) = !absent) :
    (((p && kept) || ((p || z) && field)) && !(z || absent)) = (p && !(z || absent)) := by
  revert p z kept field absent
  decide

/-- SETPSW writes the bits of its immediate and the bits with no storage (D11). -/
theorem setPsw_frame (p : Word) (imm8 : BitVec 8) :
    setPsw p imm8 &&& ~~~(zext imm8 ||| 0x32) = p &&& ~~~(zext imm8 ||| 0x32) := by
  have hmasks : ∀ n, n < 32 →
      ((0xFFFFFF00 : Word).getLsbD n || pswFieldMask.getLsbD n) = !(0x32 : Word).getLsbD n := by decide
  apply BitVec.eq_of_getLsbD_eq
  intro n hn
  simp only [setPsw, BitVec.getLsbD_and, BitVec.getLsbD_or, BitVec.getLsbD_not, hn, decide_true, Bool.true_and]
  exact setPsw_bit_frame _ _ (hmasks n hn)

/-- CLRPSW writes the bits of its immediate. -/
theorem clearPsw_frame (p : Word) (imm8 : BitVec 8) : clearPsw p imm8 &&& ~~~zext imm8 = p &&& ~~~zext imm8 := by
  rw [clearPsw, BitVec.and_assoc, BitVec.and_self]

/-! ### The instructions that choose what they write -/

theorem execMvfc_ensures {P : State → Prop} {dest : Reg} {cr : CrNum} {s : State}
    (h : ∀ v, Ensures P (s.done16 (s.setReg dest v))) : Ensures P (execMvfc dest cr s) := by
  unfold execMvfc
  split
  · exact h _
  · exact ensures_refused _

theorem execDiv_ensures {P : State → Prop} {dest src : Reg} {s : State}
    (hfree : Ensures P (s.done32 ((s.setReg dest s.freeWord).useFree 1)))
    (hdiv : ∀ n m, Ensures P (s.done32 (s.divideInto dest n m))) : Ensures P (execDiv dest src s) := by
  unfold execDiv
  split
  · exact hfree
  · exact hdiv _ _

theorem execLdInc_ensures {P : State → Prop} {dest src : Reg} {s : State}
    (h : ∀ v w, Ensures P (s.done16 ((s.setReg src v).setReg dest w)))
    (he : aligned (s.eaReg src) 4 = false → P (s.enter .ae s.pc)) : Ensures P (execLdInc dest src s) := by
  refine ensures_ifAligned ?_ he
  split
  · exact ensures_refused _
  · exact h _ _

/-- A write of a control register from supervisor mode changes what `writes` lists for its number. -/
theorem writeCr_frame {src : Reg} {cr : CrNum} {s t : State} (h : s.writeCr cr (s.reg src) = .ok t) :
    KeepsBut (writes (.mvtc src cr) s) s t := by
  have hs := KeepsBut.refl (writes (.mvtc src cr) s) s
  obtain ⟨rfl, rfl⟩ | ⟨rfl, rfl⟩ | ⟨rfl, rfl⟩ | ⟨rfl, rfl⟩ | ⟨rfl, -, rfl⟩ | ⟨rfl, rfl⟩ := writeCr_cases h
  · exact (hs.setPsw (by simp [writes, pswWrites])).markPm fun _ => rfl
  · exact hs
  · exact hs.setCell (k := .spi) (List.mem_singleton_self _) _
  · exact hs.setCell (k := .spu) (List.mem_singleton_self _) _
  · exact hs.setEvb rfl _ _
  · exact hs.setBpc rfl _

/-- A branch that links writes R14 when it is taken. -/
theorem call_frame {w : Writes} {s : State} {taken : Bool} {target npc : Word}
    (h : taken = true → s.cellOf linkReg ∈ w.regs) :
    KeepsBut w s (if taken then s.linkTo target else s.goto npc) := by
  have hs := KeepsBut.refl w s
  cases taken with
  | true => exact hs.linkTo (h rfl) _
  | false => exact hs.goto _

/-- UNLOCK stores only when LOCK = 1. -/
theorem unlock_frame (src1 src2 : Reg) (s : State) :
    KeepsBut (writes (.unlock src1 src2) s) s
      { (if s.lock then s.storeWord src1 (s.eaReg src2) else s) with lock := false } := by
  refine KeepsBut.setLock ?_ rfl _
  have hs := KeepsBut.refl (writes (.unlock src1 src2) s) s
  cases hl : s.lock with
  | true => exact hs.writeWord (by simp [writes, storeBytes, hl]) _
  | false => exact hs

/-! ### Every instruction -/

/-- The cases are grouped by what the meanings write. -/
theorem exec_frame {i : Instr} {s : State} (hr : raises i s = none) (htrap : ∀ n, i ≠ .trap n) :
    Ensures (KeepsBut (writes i s) s) (exec i s) := by
  have hs := KeepsBut.refl (writes i s) s
  cases i with
  | trap n => exact absurd rfl (htrap n)
  -- nothing but the PC
  | nop | sc | snc | jc | jnc | jmp | bc8 | bnc8 | bra8 | bc24 | bnc24 | bra24
  | beq | bne | beqz | bnez | bltz | bgez | blez | bgtz => exact ensures_next (hs.goto _)
  -- R14 if taken
  | bl8 | bl24 | jl => exact ensures_next (call_frame fun _ => List.mem_singleton_self _)
  | bcl8 | bcl24 => exact ensures_next (call_frame fun hc => by simp [writes, regWrites, hc])
  | bncl8 | bncl24 =>
    exact ensures_next (call_frame fun hc => by simpa [writes, regWrites] using hc)
  -- C
  | cmp | cmpu | cmpeq | cmpz | pcmpbz | btst | cmpi | cmpui =>
    exact ensures_next ((hs.setC (bit0_of_eq_one rfl) _).goto _)
  -- one register
  | sub | neg | add | not | and | xor | or | srl | sra | sll | mv | addi | srli | srai | slli
  | mvfachi | mvfaclo | mvfacmi | ldi8 | ldb | ldub
  | sath | satb | add3 | and3 | xor3 | or3 | srl3 | sra3 | sll3 | ldi16 | ldbDisp | ldubDisp | seth | ld24 =>
    exact ensures_next ((hs.setReg (List.mem_singleton_self _) _).goto _)
  | mvfc =>
    exact execMvfc_ensures fun _ => ensures_next ((hs.setReg (List.mem_singleton_self _) _).goto _)
  | ld | ldh | lduh | ldDisp | ldhDisp | lduhDisp =>
    exact ensures_ifAligned_of_raises hr
      (ensures_next ((hs.setReg (List.mem_singleton_self _) _).goto _))
  | divh | divb | divu | divuh | divub =>
    exact ensures_next ((hs.divideInto (List.mem_singleton_self _) _ _).goto _)
  | rem | remh | remb | remu | remuh | remub =>
    exact ensures_next ((hs.remainderInto (List.mem_singleton_self _) _ _).goto _)
  | div =>
    exact execDiv_ensures (ensures_next (((hs.setReg (List.mem_singleton_self _) _).useFree 1).goto _))
      fun _ _ => ensures_next ((hs.divideInto (List.mem_singleton_self _) _ _).goto _)
  -- one register and C
  | subv | subx | addv | addx | addv3 =>
    exact ensures_next (((hs.setReg (List.mem_singleton_self _) _).setC (bit0_of_eq_one rfl) _).goto _)
  -- two registers
  | ldInc =>
    refine execLdInc_ensures (fun _ _ => ensures_next (((hs.setReg ?_ _).setReg ?_ _).goto _))
      fun ha => by simp [raises, ha] at hr
    · simp [writes, regWrites]
    · simp [writes, regWrites]
  -- accumulators
  | mulhi | mullo | mulwhi | mulwlo | machi | maclo | macwhi | macwlo | mvtachi | mvtaclo | rach | rac
  | mulwu1 | macwu1 | maclh1 | msblo | sadd =>
    exact ensures_next ((hs.setAcc (List.mem_singleton_self _) _).goto _)
  | mul =>
    refine ensures_next (((hs.setReg (List.mem_singleton_self _) _).destroyAccs ?_ ?_).goto _)
    · simp [writes, accWrites]
    · simp [writes, accWrites]
  -- memory
  | stb | stbDisp | bset | bclr => exact ensures_next ((hs.writeByte (List.mem_singleton_self _) _).goto _)
  | sth | sthDisp =>
    exact ensures_ifAligned_of_raises hr (ensures_next ((hs.writeHalf (List.Subset.refl _) _).goto _))
  | st | stDisp =>
    exact ensures_ifAligned_of_raises hr (ensures_next ((hs.writeWord (List.Subset.refl _) _).goto _))
  -- memory and the base register
  | stbInc =>
    exact ensures_next
      (((hs.writeByte (List.mem_singleton_self _) _).setReg (by simp [writes, regWrites]) _).goto _)
  | sthInc =>
    exact ensures_ifAligned_of_raises hr
      (ensures_next (((hs.writeHalf (List.Subset.refl _) _).setReg (by simp [writes, regWrites]) _).goto _))
  | stPreInc | stPreDec =>
    exact ensures_ifAligned_of_raises hr
      (ensures_next (((hs.writeWord (List.Subset.refl _) _).setReg (by simp [writes, regWrites]) _).goto _))
  -- LOCK
  | lock =>
    exact ensures_ifAligned_of_raises hr
      (ensures_next (((hs.setReg (List.mem_singleton_self _) _).setLock rfl _).goto _))
  | unlock =>
    exact ensures_ifAligned_of_raises hr (ensures_next ((unlock_frame _ _ _).goto _))
  -- PSW and the control registers
  | rte =>
    exact ensures_ifSupervisor_of_raises hr
      (ensures_next ((hs.setPsw (p := returnPsw s.psw) (by simp [writes, pswWrites])).goto _))
  | setpsw imm8 =>
    exact ensures_ifSupervisor_of_raises hr
      (ensures_next (((hs.setPsw (setPsw_frame _ _)).markPm id).goto _))
  | clrpsw imm8 =>
    exact ensures_ifSupervisor_of_raises hr
      (ensures_next (((hs.setPsw (clearPsw_frame _ _)).markPm id).goto _))
  | mvtc src cr =>
    refine ensures_ifSupervisor_of_raises hr ?_
    split
    · next t ht => exact ensures_next ((writeCr_frame ht).goto _)
    · exact ensures_refused _
  -- the coprocessors
  | mvfcp =>
    exact ensures_ifCoprocessor_of_raises hr
      (ensures_next (((hs.setReg (List.mem_singleton_self _) _).copDo rfl _).goto _))
  | mvtcp | opecp =>
    exact ensures_ifCoprocessor_of_raises hr (ensures_next ((hs.copDo rfl _).goto _))

/-- Settles O19, by the cases of the instruction. -/
theorem everyInstructionKeepsItsFrame : Obligations.EveryInstructionKeepsItsFrame :=
  fun _ _ t hr htrap h => exec_frame hr htrap t h

end Sys2Proof.Machine

/-! ## What a step that answers a next state has done (49_sequencing_parallel.md R461) -/

namespace Sys2Proof.Machine

/-- From `s` to `t` a reset has been taken, an event has been entered from PC, or one instruction, or a pair, has been
executed: the pair differs from its upper instruction alone in nothing but registers, accumulators and C. -/
inductive StepsTo (s : State) : State → Prop where
  | reset (h : s.resetReq = true) : StepsTo s s.takeReset
  | enter (e : Event) : StepsTo s (s.enter e s.pc)
  | execute (i : Instr) (u t : State) (h : exec i s = .next u) (ht : SameFixed u t) : StepsTo s t

theorem stepsTo_raise {s t : State} {e : Event} (h : s.raise e = .next t) : StepsTo s t := by
  cases h
  exact .enter e

theorem stepsTo_boundary {s t : State} (h : s.boundary = some t) : StepsTo s t := by
  obtain ⟨hr, rfl⟩ | ⟨-, -, rfl⟩ | ⟨-, -, rfl⟩ := boundary_cases h
  · exact .reset hr
  · exact .enter .ei
  · exact .enter .cpi

theorem stepsTo_exec {i : Instr} {s t : State} (h : exec i s = .next t) : StepsTo s t :=
  .execute i t t h (.refl t)

theorem stepsTo_execPair {o sd : Instr} {s t : State} (h : execPair o sd s = .next t) : StepsTo s t := by
  obtain ⟨-, e⟩ | ⟨-, ⟨ev, -, e⟩ | ⟨-, ⟨e, -⟩ | ⟨-, sO, hO, ⟨e, -⟩ | ⟨sS, -, e⟩⟩⟩⟩ := execPair_cases h
  · cases e
  · exact stepsTo_raise e.symm
  · exact stepsTo_exec e.symm
  · exact stepsTo_exec e.symm
  · cases e
    exact .execute o sO _ hO (merge_fixed ..)

theorem stepsTo_execute {s t : State} (h : s.execute = .next t) : StepsTo s t := by
  obtain ⟨-, e⟩ | ⟨-, e | ⟨i, -, -, e⟩ | ⟨i, -, -, e⟩ | ⟨o, sd, -, -, -, -, -, e⟩ | ⟨-, -, e⟩ | ⟨-, -, -, e⟩⟩ :=
    execute_cases h
  · cases e
  · exact stepsTo_raise e.symm
  · exact stepsTo_exec e.symm
  · exact stepsTo_exec e.symm
  · exact stepsTo_execPair e.symm
  · cases e
  · cases e

theorem stepsTo_of_step {s t : State} (h : step s = .next t) : StepsTo s t := by
  obtain ⟨u, hu, e⟩ | ⟨-, e⟩ := step_cases h
  · cases e
    exact stepsTo_boundary hu
  · exact stepsTo_execute e.symm

end Sys2Proof.Machine

/-! ## The fixed bits and the canonical memory (10_state.md R25, R33, R42, R45) -/

namespace Sys2Proof.Machine

/-! ### Even addresses -/

theorem even_add {a b : Word} (ha : a.getLsbD 0 = false) (hb : b.getLsbD 0 = false) : (a + b).getLsbD 0 = false := by
  rw [BitVec.getLsbD_add (by decide), ha, hb, BitVec.carry_zero]
  rfl

theorem even_and {a m : Word} (hm : m.getLsbD 0 = false) : (a &&& m).getLsbD 0 = false := by
  rw [BitVec.getLsbD_and, hm, Bool.and_false]

theorem npc32_even {s : State} (h : s.pc.getLsbD 0 = false) : s.npc32.getLsbD 0 = false := even_add h (by decide)

theorem npc16_even {s : State} (h : s.pc.getLsbD 0 = false) : s.npc16.getLsbD 0 = false := by
  unfold State.npc16
  split
  · exact even_add h (by decide)
  · exact even_add h (by decide)

theorem wordBase_even (a : Word) : (wordBase a).getLsbD 0 = false := even_and (by decide)

theorem linkValue_even (s : State) : s.linkValue.getLsbD 0 = false := even_add (wordBase_even _) (by decide)

theorem pcTarget_even (s : State) {n : Nat} (d : BitVec n) : (s.pcTarget d).getLsbD 0 = false :=
  even_add (wordBase_even _) (by simp)

theorem vecOffset_even (e : Event) : (vecOffset e).getLsbD 0 = false := by
  rw [vecOffset, BitVec.getLsbD_setWidth, BitVec.getLsbD_append]
  simp

theorem vecAddr_even (s : State) (e : Event) : (s.vecAddr e).getLsbD 0 = false := by
  cases e with
  | ri =>
    change (0 : Word).getLsbD 0 = false
    decide
  | _ => exact even_add (even_and (by decide)) (vecOffset_even _)

/-! ### The bits of PSW that have no storage -/

/-- A word that was masked has no bit that another mask, containing the first one, leaves out. -/
theorem and_and_not_eq_zero {p m k : Word} (h : m &&& ~~~k = 0) : p &&& m &&& ~~~k = 0 := by
  rw [BitVec.and_assoc, h]
  exact BitVec.and_zero

/-- Bits that are 0 stay 0 under a further mask. -/
theorem and_and_eq_zero {p k : Word} (h : p &&& k = 0) (m : Word) : p &&& m &&& k = 0 := by
  rw [BitVec.and_assoc, BitVec.and_comm m, ← BitVec.and_assoc, h]
  exact BitVec.zero_and

theorem clearPsw_fixed {p : Word} (h : p &&& ~~~pswMask = 0) (imm8 : BitVec 8) :
    clearPsw p imm8 &&& ~~~pswMask = 0 := and_and_eq_zero h _

theorem setPsw_fixed {p : Word} (h : p &&& ~~~pswMask = 0) (imm8 : BitVec 8) : setPsw p imm8 &&& ~~~pswMask = 0 := by
  rw [setPsw, BitVec.and_or_distrib_right, and_and_eq_zero h, and_and_not_eq_zero (by decide)]
  rfl

theorem returnPsw_fixed (p : Word) : returnPsw p &&& ~~~pswMask = 0 := by
  rw [returnPsw, BitVec.and_or_distrib_right, and_and_not_eq_zero (by decide), and_and_not_eq_zero (by decide)]
  rfl

theorem entryPsw_fixed (b : Bool) (p : Word) : entryPsw b p &&& ~~~pswMask = 0 := by
  have hsaved : (p &&& pswFieldMask) <<< 8 &&& ~~~pswMask = 0 := by
    rw [BitVec.shiftLeft_and_distrib, and_and_not_eq_zero (by decide)]
  have hsm : (if b then 0 else p &&& 0x80) &&& ~~~pswMask = 0 := by
    cases b with
    | true => exact BitVec.zero_and
    | false => exact and_and_not_eq_zero (by decide)
  rw [entryPsw, BitVec.and_or_distrib_right, hsaved, hsm]
  rfl

/-! ### How each update keeps the invariant -/

section Inv

variable {s t : State}

/-- The invariant says nothing of registers, accumulators and C. -/
theorem State.Inv.of_sameFixed (h : s.Inv) (ht : SameFixed s t) : t.Inv where
  psw := by
    rw [← h.psw]
    apply BitVec.eq_of_getLsbD_eq
    intro n _
    rw [BitVec.getLsbD_and, BitVec.getLsbD_and]
    by_cases hn : n = 0
    · have hc : (~~~pswMask).getLsbD 0 = false := by decide
      rw [hn, hc, Bool.and_false, Bool.and_false]
    · rw [ht.psw n hn]
  evb := ht.evb ▸ h.evb
  bpc := ht.bpc ▸ h.bpc
  pc := ht.pc ▸ h.pc
  mem := ht.mem ▸ h.mem

theorem State.Inv.setReg (h : s.Inv) (r : Reg) (v : Word) : (s.setReg r v).Inv :=
  h.of_sameFixed (by constructor <;> simp)

theorem State.Inv.setAcc (h : s.Inv) (a : Acc) (v : Acc56) : (s.setAcc a v).Inv :=
  h.of_sameFixed (by constructor <;> simp)

theorem State.Inv.accumulate (h : s.Inv) (a : Acc) (v : Int) : (s.accumulate a v).Inv := h.setAcc a _

theorem State.Inv.setC (h : s.Inv) (b : Bool) : (s.setC b).Inv :=
  h.of_sameFixed (by constructor <;> simp +contextual [State.setC_getLsbD])

theorem State.Inv.useFree (h : s.Inv) (k : Nat) : (s.useFree k).Inv := { h with }

theorem State.Inv.copDo (h : s.Inv) (op : CopOp) : (s.copDo op).Inv := { h with }

theorem State.Inv.markPm (h : s.Inv) (b : Bool) : (s.markPm b).Inv := { h with }

theorem State.Inv.setLock (h : s.Inv) (b : Bool) : State.Inv { s with lock := b } := { h with }

theorem State.Inv.setPsw (h : s.Inv) {p : Word} (hp : p &&& ~~~pswMask = 0) : State.Inv { s with psw := p } :=
  { h with psw := hp }

theorem State.Inv.goto (h : s.Inv) {a : Word} (ha : a.getLsbD 0 = false) : (s.goto a).Inv := { h with pc := ha }

theorem State.Inv.writeByte (h : s.Inv) (a : Word) (v : Byte) : (s.writeByte a v).Inv :=
  { h with mem := State.writeByte_mem_wf h.mem a v }

theorem State.Inv.writeHalf (h : s.Inv) (a : Word) (v : Half) : (s.writeHalf a v).Inv :=
  (h.writeByte _ _).writeByte _ _

theorem State.Inv.writeWord (h : s.Inv) (a v : Word) : (s.writeWord a v).Inv :=
  (((h.writeByte _ _).writeByte _ _).writeByte _ _).writeByte _ _

theorem State.Inv.divideInto (h : s.Inv) (r : Reg) (n m : Int) : (s.divideInto r n m).Inv := by
  unfold State.divideInto
  split
  · exact h
  · exact h.setReg _ _

theorem State.Inv.remainderInto (h : s.Inv) (r : Reg) (n m : Int) : (s.remainderInto r n m).Inv := by
  unfold State.remainderInto
  split
  · exact h
  · exact h.setReg _ _

theorem State.Inv.writeCr (h : s.Inv) {cr : CrNum} {v : Word} (ht : s.writeCr cr v = .ok t) : t.Inv := by
  obtain ⟨-, rfl⟩ | ⟨-, rfl⟩ | ⟨-, rfl⟩ | ⟨-, rfl⟩ | ⟨-, -, rfl⟩ | ⟨-, rfl⟩ := writeCr_cases ht
  · exact (h.setPsw (and_and_not_eq_zero (by decide))).markPm _
  · exact h
  · exact { h with }
  · exact { h with }
  · exact { h with evb := and_and_not_eq_zero (by decide) }
  · exact { h with bpc := even_and (by decide) }

theorem State.Inv.enter (h : s.Inv) (e : Event) (p : Word) : (s.enter e p).Inv :=
  { h with psw := entryPsw_fixed _ _, bpc := even_and (by decide), pc := vecAddr_even s e }

theorem State.Inv.eitReturn (h : s.Inv) : s.eitReturn.Inv :=
  { h with psw := returnPsw_fixed _, pc := even_and (by decide) }

theorem State.Inv.takeReset (h : s.Inv) : s.takeReset.Inv where
  psw := and_and_not_eq_zero (by decide)
  evb := BitVec.zero_and
  bpc := even_and (by decide)
  pc := vecAddr_even s .ri
  mem := h.mem

/-! ### How an instruction ends -/

theorem State.Inv.done16 (hs : s.Inv) (ht : t.Inv) : Ensures State.Inv (s.done16 t) :=
  ensures_next (ht.goto (npc16_even hs.pc))

theorem State.Inv.done32 (hs : s.Inv) (ht : t.Inv) : Ensures State.Inv (s.done32 t) :=
  ensures_next (ht.goto (npc32_even hs.pc))

theorem State.Inv.branch16 (hs : s.Inv) (b : Bool) {a : Word} (ha : a.getLsbD 0 = false) :
    Ensures State.Inv (s.branch16 b a) := by
  refine ensures_next (hs.goto ?_)
  cases b with
  | true => exact ha
  | false => exact npc16_even hs.pc

theorem State.Inv.branch32 (hs : s.Inv) (b : Bool) {a : Word} (ha : a.getLsbD 0 = false) :
    Ensures State.Inv (s.branch32 b a) := by
  refine ensures_next (hs.goto ?_)
  cases b with
  | true => exact ha
  | false => exact npc32_even hs.pc

theorem State.Inv.call16 (hs : s.Inv) (b : Bool) {a : Word} (ha : a.getLsbD 0 = false) :
    Ensures State.Inv (s.call16 b a) := by
  cases b with
  | true => exact ensures_next ((hs.setReg _ _).goto ha)
  | false => exact ensures_next (hs.goto (npc16_even hs.pc))

theorem State.Inv.call32 (hs : s.Inv) (b : Bool) {a : Word} (ha : a.getLsbD 0 = false) :
    Ensures State.Inv (s.call32 b a) := by
  cases b with
  | true => exact ensures_next ((hs.setReg _ _).goto ha)
  | false => exact ensures_next (hs.goto (npc32_even hs.pc))

theorem State.Inv.ifAligned (hs : s.Inv) {ea : Word} {n : Nat} {r : Result} (h : Ensures State.Inv r) :
    Ensures State.Inv (s.ifAligned ea n r) :=
  ensures_ifAligned h fun _ => hs.enter _ _

theorem State.Inv.ifSupervisor (hs : s.Inv) {r : Result} (h : Ensures State.Inv r) :
    Ensures State.Inv (s.ifSupervisor r) :=
  ensures_ifSupervisor h fun _ => hs.enter _ _

theorem State.Inv.ifCoprocessor (hs : s.Inv) {n : CpNum} {r : Result} (h : Ensures State.Inv r) :
    Ensures State.Inv (s.ifCoprocessor n r) :=
  ensures_ifCoprocessor h fun _ => hs.enter _ _

end Inv

/-! ### Every instruction and every step -/

/-- The cases are grouped by what the meanings write. -/
theorem exec_keeps_inv {i : Instr} {s : State} (hs : s.Inv) : Ensures State.Inv (exec i s) := by
  cases i with
  -- nothing but the PC
  | nop => exact hs.done16 hs
  | bc8 | bnc8 | bra8 => exact hs.branch16 _ (pcTarget_even _ _)
  | jc | jnc | jmp => exact hs.branch16 _ (wordBase_even _)
  | sc | snc => exact hs.branch16 _ (linkValue_even _)
  | bc24 | bnc24 | bra24 | beq | bne | beqz | bnez | bltz | bgez | blez | bgtz =>
    exact hs.branch32 _ (pcTarget_even _ _)
  | bl8 | bcl8 | bncl8 => exact hs.call16 _ (pcTarget_even _ _)
  | jl => exact hs.call16 _ (wordBase_even _)
  | bl24 | bcl24 | bncl24 => exact hs.call32 _ (pcTarget_even _ _)
  | trap => exact ensures_next (hs.enter _ _)
  -- registers, accumulators and C
  | cmp | cmpu | cmpeq | cmpz | pcmpbz | btst => exact hs.done16 (hs.setC _)
  | cmpi | cmpui => exact hs.done32 (hs.setC _)
  | sub | neg | add | not | and | xor | or | srl | sra | sll | mv | addi | srli | srai | slli
  | mvfachi | mvfaclo | mvfacmi | ldi8 | ldb | ldub => exact hs.done16 (hs.setReg _ _)
  | sath | satb | add3 | and3 | xor3 | or3 | srl3 | sra3 | sll3 | ldi16 | ldbDisp | ldubDisp | seth | ld24 =>
    exact hs.done32 (hs.setReg _ _)
  | subv | subx | addv | addx => exact hs.done16 ((hs.setReg _ _).setC _)
  | addv3 => exact hs.done32 ((hs.setReg _ _).setC _)
  | mvfc => exact execMvfc_ensures fun _ => hs.done16 (hs.setReg _ _)
  | ld | ldh | lduh => exact hs.ifAligned (hs.done16 (hs.setReg _ _))
  | ldDisp | ldhDisp | lduhDisp => exact hs.ifAligned (hs.done32 (hs.setReg _ _))
  | ldInc =>
    exact execLdInc_ensures (fun _ _ => hs.done16 ((hs.setReg _ _).setReg _ _)) fun _ => hs.enter _ _
  | divh | divb | divu | divuh | divub => exact hs.done32 (hs.divideInto _ _ _)
  | rem | remh | remb | remu | remuh | remub => exact hs.done32 (hs.remainderInto _ _ _)
  | div =>
    exact execDiv_ensures (hs.done32 ((hs.setReg _ _).useFree _)) fun _ _ => hs.done32 (hs.divideInto _ _ _)
  | mulhi | mullo | mulwhi | mulwlo | mulwu1 | mvtachi | mvtaclo | rach | rac => exact hs.done16 (hs.setAcc _ _)
  | machi | maclo | macwhi | macwlo | macwu1 | maclh1 | msblo | sadd => exact hs.done16 (hs.accumulate _ _)
  | mul => exact hs.done16 ((((hs.setReg _ _).setAcc _ _).setAcc _ _).useFree _)
  -- memory and LOCK
  | stb => exact hs.done16 (hs.writeByte _ _)
  | stbDisp | bset | bclr => exact hs.done32 (hs.writeByte _ _)
  | stbInc => exact hs.done16 ((hs.writeByte _ _).setReg _ _)
  | sth => exact hs.ifAligned (hs.done16 (hs.writeHalf _ _))
  | sthDisp => exact hs.ifAligned (hs.done32 (hs.writeHalf _ _))
  | sthInc => exact hs.ifAligned (hs.done16 ((hs.writeHalf _ _).setReg _ _))
  | st => exact hs.ifAligned (hs.done16 (hs.writeWord _ _))
  | stDisp => exact hs.ifAligned (hs.done32 (hs.writeWord _ _))
  | stPreInc | stPreDec => exact hs.ifAligned (hs.done16 ((hs.writeWord _ _).setReg _ _))
  | lock => exact hs.ifAligned (hs.done16 ((hs.setReg _ _).setLock _))
  | unlock =>
    refine hs.ifAligned (hs.done16 (State.Inv.setLock ?_ _))
    split
    · exact hs.writeWord _ _
    · exact hs
  -- PSW and the control registers
  | rte => exact hs.ifSupervisor (ensures_next hs.eitReturn)
  | setpsw => exact hs.ifSupervisor (hs.done16 ((hs.setPsw (setPsw_fixed hs.psw _)).markPm _))
  | clrpsw => exact hs.ifSupervisor (hs.done16 ((hs.setPsw (clearPsw_fixed hs.psw _)).markPm _))
  | mvtc =>
    refine hs.ifSupervisor ?_
    split
    · next t ht => exact hs.done16 (hs.writeCr ht)
    · exact ensures_refused _
  -- the coprocessors
  | mvfcp => exact hs.ifCoprocessor (hs.done32 ((hs.setReg _ _).copDo _))
  | mvtcp | opecp => exact hs.ifCoprocessor (hs.done32 (hs.copDo _))

/-- Settles O22: the reset and the entries give the fixed bits, every instruction keeps them, and a pair differs from its
upper instruction in nothing the invariant speaks of. -/
theorem everyStepKeepsTheInvariant : Obligations.EveryStepKeepsTheInvariant := by
  intro s t hs h
  cases stepsTo_of_step h with
  | reset => exact hs.takeReset
  | enter e => exact hs.enter e _
  | execute i u _ hu ht => exact (exec_keeps_inv hs u hu).of_sameFixed ht

/-- Settles O23, from the values of `State.reset`. -/
theorem resetHasTheInvariant : Obligations.ResetHasTheInvariant where
  psw := by decide
  evb := by decide
  bpc := by decide
  pc := by decide
  mem := reset_mem_wf

end Sys2Proof.Machine

/-! ## The vector base is written once (10_state.md R44, 70_reset_and_hazards.md R587) -/

namespace Sys2Proof.Machine

/-- EVB and its hidden bit are the same in both states. -/
def SameEvb (s t : State) : Prop := t.evb = s.evb ∧ t.evbWritten = s.evbWritten

theorem check_failed {b : Bool} {ev e : Event} (h : (if b then none else some ev) = some e) : b = false ∧ ev = e := by
  cases b with
  | true => simp at h
  | false => exact ⟨rfl, by simpa using h⟩

/-- An instruction that raises an exception does nothing but the entry. -/
theorem exec_of_raises {i : Instr} {s : State} {e : Event} (h : raises i s = some e) : exec i s = s.raise e := by
  cases i with
  | ld | ldInc | lock | ldh | lduh | st | unlock | sth | sthInc | stPreInc | stPreDec | ldDisp | ldhDisp | lduhDisp
  | stDisp | sthDisp =>
    obtain ⟨ha, rfl⟩ := check_failed h
    exact ifAligned_neg ha _
  | mvfcp | mvtcp | opecp =>
    obtain ⟨hc, rfl⟩ := check_failed h
    exact ifCoprocessor_neg hc _
  | rte | mvtc | setpsw | clrpsw =>
    cases hp : s.pm <;> simp [raises, hp] at h
    exact h ▸ ifSupervisor_neg hp _
  | _ => cases h

/-- The only write that reaches EVB is the first one. -/
theorem writeCr_sameEvb {s t : State} {cr : CrNum} {v : Word} (hw : s.evbWritten = true)
    (h : s.writeCr cr v = .ok t) : SameEvb s t := by
  obtain ⟨-, rfl⟩ | ⟨-, rfl⟩ | ⟨-, rfl⟩ | ⟨-, rfl⟩ | ⟨-, hn, -⟩ | ⟨-, rfl⟩ := writeCr_cases h
  case inr.inr.inr.inr.inl => exact Bool.noConfusion (hw.symm.trans hn)
  all_goals exact ⟨rfl, rfl⟩

/-- Every instruction but MVTC to EVB leaves EVB as it is; that one is not executed once EVB has been written. -/
theorem exec_sameEvb {i : Instr} {s : State} (hw : s.evbWritten = true) : Ensures (SameEvb s) (exec i s) := by
  cases hr : raises i s with
  | some e =>
    rw [exec_of_raises hr]
    exact ensures_next ⟨rfl, rfl⟩
  | none =>
    cases i with
    | trap => exact ensures_next ⟨rfl, rfl⟩
    | mvtc src cr =>
      refine ensures_ifSupervisor_of_raises hr ?_
      split
      · next t ht =>
        obtain ⟨he, hm⟩ := writeCr_sameEvb hw ht
        exact ensures_next ⟨he, hm⟩
      · exact ensures_refused _
    | _ => exact fun t ht => (exec_frame hr (fun _ => Instr.noConfusion) t ht).evb rfl

theorem execMvtc_evb {src : Reg} {s : State} (hp : s.pm = false) (hw : s.evbWritten = false) :
    execMvtc src 5 s = s.done16 { s with evb := s.reg src &&& evbMask, evbWritten := true } := by
  simp [execMvtc, ifSupervisor_pos hp, State.writeCr, State.writeEvb, hw]

/-- Settles O28: the first write from `execMvtc_evb`, the refusal of a later one from `writeCr_evb_of_written`, and a step
that is no reset enters an event or executes, which leaves EVB as it is. -/
theorem vectorBaseIsWrittenOnce : Obligations.VectorBaseIsWrittenOnce := by
  refine ⟨fun r s hp => ⟨fun hw => ⟨_, execMvtc_evb hp hw, rfl, rfl⟩,
    fun hw => execMvtc_of_writeCr_error hp (writeCr_evb_of_written _ hw)⟩, fun s t hw hreset h => ?_⟩
  cases stepsTo_of_step h with
  | reset hr => exact absurd hr (by simp [hreset])
  | enter e => exact ⟨rfl, hw⟩
  | execute i u _ hu ht =>
    obtain ⟨he, hm⟩ := exec_sameEvb hw u hu
    exact ⟨ht.evb.trans he, (ht.evbWritten.trans hm).trans hw⟩

end Sys2Proof.Machine

/-! ## Words and halfwords in memory are big endian (20_memory.md R84, 92_eei_decisions.md D1)

Each byte of a store is one case of `State.writeWord_readByte` or `State.writeHalf_readByte`; addresses are modulo 2^32,
where different offsets from one address are still different addresses. A wider read appends neighbouring slices of the
value stored, which join. -/

namespace Sys2Proof.Machine

/-! ### The bytes of a halfword store -/

theorem State.writeHalf_readByte_0 (s : State) (a : Word) (v : Half) :
    (s.writeHalf a v).readByte a = v.extractLsb' 8 8 := by
  simp [State.writeHalf_readByte]

theorem State.writeHalf_readByte_1 (s : State) (a : Word) (v : Half) :
    (s.writeHalf a v).readByte (a + 1) = v.extractLsb' 0 8 := by
  simp [State.writeHalf_readByte]

theorem State.writeHalf_readByte_outside (s : State) (a : Word) (v : Half) {b : Word} (h : b ∉ halfBytes a) :
    (s.writeHalf a v).readByte b = s.readByte b := by
  simp only [halfBytes, List.mem_cons, List.not_mem_nil, or_false, not_or] at h
  obtain ⟨h0, h1⟩ := h
  rw [State.writeHalf_readByte, if_neg h1, if_neg h0]

/-! ### The bytes of a word store -/

theorem State.writeWord_readByte_0 (s : State) (a v : Word) :
    (s.writeWord a v).readByte a = v.extractLsb' 24 8 := by
  simp [State.writeWord_readByte]

theorem State.writeWord_readByte_1 (s : State) (a v : Word) :
    (s.writeWord a v).readByte (a + 1) = v.extractLsb' 16 8 := by
  simp [State.writeWord_readByte]

theorem State.writeWord_readByte_2 (s : State) (a v : Word) :
    (s.writeWord a v).readByte (a + 2) = v.extractLsb' 8 8 := by
  simp [State.writeWord_readByte]

theorem State.writeWord_readByte_3 (s : State) (a v : Word) :
    (s.writeWord a v).readByte (a + 3) = v.extractLsb' 0 8 := by
  simp [State.writeWord_readByte]

theorem State.writeWord_readByte_outside (s : State) (a v : Word) {b : Word} (h : b ∉ wordBytes a) :
    (s.writeWord a v).readByte b = s.readByte b := by
  simp only [wordBytes, List.mem_cons, List.not_mem_nil, or_false, not_or] at h
  obtain ⟨h0, h1, h2, h3⟩ := h
  rw [State.writeWord_readByte, if_neg h3, if_neg h2, if_neg h1, if_neg h0]

/-! ### The wider reads of a store -/

/-- The bytes of the lower halfword of a word. -/
theorem State.readHalf_add_two (s : State) (a : Word) :
    s.readHalf (a + 2) = s.readByte (a + 2) ++ s.readByte (a + 3) := by
  have h3 : a + 2 + 1 = a + 3 := BitVec.add_assoc a 2 1
  rw [State.readHalf, h3]

/-- A word is its upper halfword, then its lower one. -/
theorem State.readWord_eq_readHalf_append (s : State) (a : Word) :
    s.readWord a = s.readHalf a ++ s.readHalf (a + 2) := by
  rw [State.readWord, State.readHalf_add_two, ← State.readHalf]
  exact (BitVec.append_assoc (x₁ := s.readHalf a) (x₂ := s.readByte (a + 2))).trans (BitVec.cast_eq _ _)

@[simp] theorem State.writeHalf_readHalf (s : State) (a : Word) (v : Half) : (s.writeHalf a v).readHalf a = v := by
  rw [State.readHalf, State.writeHalf_readByte_0, State.writeHalf_readByte_1]
  exact fields_join (n := 8) (m := 8) v

theorem State.writeWord_readHalf_upper (s : State) (a v : Word) :
    (s.writeWord a v).readHalf a = v.extractLsb' 16 16 := by
  rw [State.readHalf, State.writeWord_readByte_0, State.writeWord_readByte_1]
  exact BitVec.extractLsb'_append_extractLsb'_eq_extractLsb' rfl

theorem State.writeWord_readHalf_lower (s : State) (a v : Word) :
    (s.writeWord a v).readHalf (a + 2) = v.extractLsb' 0 16 := by
  rw [State.readHalf_add_two, State.writeWord_readByte_2, State.writeWord_readByte_3]
  exact BitVec.extractLsb'_append_extractLsb'_eq_extractLsb' rfl

@[simp] theorem State.writeWord_readWord (s : State) (a v : Word) : (s.writeWord a v).readWord a = v := by
  rw [State.readWord_eq_readHalf_append, State.writeWord_readHalf_upper, State.writeWord_readHalf_lower]
  exact fields_join (n := 16) (m := 16) v

/-- Settles O29: the bytes of each store, and the reads that join them. -/
theorem storesAreBigEndian : Obligations.StoresAreBigEndian := fun s a =>
  ⟨fun v => ⟨s.writeWord_readByte_0 a v, s.writeWord_readByte_1 a v, s.writeWord_readByte_2 a v,
      s.writeWord_readByte_3 a v, s.writeWord_readHalf_upper a v, s.writeWord_readHalf_lower a v,
      s.writeWord_readWord a v, fun _ => s.writeWord_readByte_outside a v⟩,
    fun v => ⟨s.writeHalf_readByte_0 a v, s.writeHalf_readByte_1 a v, s.writeHalf_readHalf a v,
      fun _ => s.writeHalf_readByte_outside a v⟩⟩

end Sys2Proof.Machine

/-! ## Decoding undoes encoding (30_encoding.md R130, R131)

Most fields come back by computation. The lemmas of the first part are for those that are packed: an immediate shift's
count, a coprocessor form's lower halfword, and the two accumulators and the count of RAC and RACH. -/

namespace Sys2Proof

/-! ### Packed fields -/

theorem imm1Ok_iff {n : Nat} : imm1Ok n = true ↔ n = 1 ∨ n = 2 := by simp [imm1Ok]

theorem decodeRound_fields (mk : Acc → Acc → Nat → Instr) (ad as : Acc) {imm1 : Nat} (h : imm1Ok imm1 = true) :
    decodeRound mk (accBits ad ++ 0#2) (accBits as ++ 0#1 ++ BitVec.ofNat 1 (imm1 - 1)) = some (mk ad as imm1) := by
  obtain rfl | rfl := imm1Ok_iff.mp h <;> cases ad <;> cases as <;> rfl

/-- The bit position `0bbb` (R127), as the decoder reads it. -/
theorem decodeBitpos_fields (mk : Fin 8 → Instr) (b : Fin 8) :
    (if (bitposBits b).getLsbD 3 then none else some (mk ((bitposBits b).extractLsb' 0 3).toFin)) = some (mk b) := by
  rw [bitposBits_number, if_neg (Bool.eq_false_iff.mp (bitposBits_bit3 b))]

/-- The nibble `op2' c[4]` of an immediate shift (R123). -/
theorem shiftNibble_fields (op : BitVec 3) (b : BitVec 1) :
    (op ++ b).extractLsb' 1 3 = op ∧ (op ++ b).extractLsb' 0 1 = b :=
  ⟨(field_high op b 0 3).trans (field_all op), field_low op b⟩

/-- The count of an immediate shift is made of `c[4]` and `c[3:0]`. -/
theorem imm5_fields (c : BitVec 5) : c.extractLsb' 4 1 ++ c.extractLsb' 0 4 = c := fields_join (n := 1) (m := 4) c

/-- The lower halfword `cpid 0000 inst` of a coprocessor form (R450). -/
theorem copHalf_fields (cpid : CpNum) (inst : BitVec 8) :
    nib (regBits cpid ++ 0#4 ++ inst : Half) 12 = regBits cpid ∧ nib (regBits cpid ++ 0#4 ++ inst : Half) 8 = 0 ∧
      (regBits cpid ++ 0#4 ++ inst : Half).extractLsb' 0 8 = inst :=
  ⟨(field_high _ inst 4 4).trans ((field_high _ 0#4 0 4).trans (field_all _)),
    (field_high _ inst 0 4).trans (field_low _ 0#4), field_low _ inst⟩

/-! ### Every instruction -/

/-- The cases are grouped by the shape of the encoding. -/
theorem decode_encode {i : Instr} (h : i.wf = true) : decode (encode i) = .ok i := by
  cases i with
  -- halfwords with packed fields
  | rac ad as | rach ad as => exact decode_half4 _ _ _ _ (decodeRound_fields _ ad as h)
  | mulhi _ _ a | mullo _ _ a | machi _ _ a | maclo _ _ a
  | mvtachi _ a | mvtaclo _ a | mvfachi _ a | mvfaclo _ a | mvfacmi _ a =>
    cases a <;> exact decode_half4 _ _ _ _ rfl
  | srli | srai | slli =>
    exact decode_half4 _ _ _ _ (by simp [decodeNibbles, decodeOp5, shiftNibble_fields, imm5_fields])
  | btst b src => exact decode_half4 _ _ _ _ (decodeBitpos_fields (.btst · src) b)
  -- halfwords with an 8-bit immediate
  | addi | ldi8 | setpsw | clrpsw | bcl8 | bncl8 | bc8 | bnc8 | bl8 | bra8 =>
    exact decode_halfImm8 _ _ _ (by simp [decodeNibbles, decodeOp7, byte_nibs])
  -- words
  | ld24 | bcl24 | bncl24 | bc24 | bnc24 | bl24 | bra24 =>
    exact decode_wordImm24 _ _ _ (by simp [decodeFields, decodeOpF, imm24_fields])
  | bset b src disp16 => exact decode_word4 _ _ _ _ _ (decodeBitpos_fields (.bset · src disp16) b)
  | bclr b src disp16 => exact decode_word4 _ _ _ _ _ (decodeBitpos_fields (.bclr · src disp16) b)
  | mvfcp | mvtcp | opecp => exact decode_word4 _ _ _ _ _ (by simp [decodeFields, decodeOpD, copHalf_fields])
  | cmpi | cmpui | sath | satb | addv3 | add3 | and3 | xor3 | or3
  | div | divh | divb | divu | divuh | divub | rem | remh | remb | remu | remuh | remub | srl3 | sra3 | sll3 | ldi16
  | stbDisp | sthDisp | stDisp | ldbDisp | ldubDisp | ldhDisp | lduhDisp | ldDisp
  | beq | bne | beqz | bnez | bltz | bgez | blez | bgtz | seth =>
    exact decode_word4 _ _ _ _ _ rfl
  -- halfwords of literal nibbles and registers
  | _ => exact decode_half4 _ _ _ _ rfl

/-- Settles O1, by the cases of the instruction. -/
theorem decodeUndoesEncode : Obligations.DecodeUndoesEncode := fun _ h => decode_encode h

end Sys2Proof

/-! ## Bit 15 of a halfword is no part of the instruction (30_encoding.md R122) -/

namespace Sys2Proof

/-- The decoder reads three bits of op1. -/
theorem decodeNibbles_congr {op op' : BitVec 4} (h : op.extractLsb' 0 3 = op'.extractLsb' 0 3) (d e f : BitVec 4) :
    decodeNibbles op d e f = decodeNibbles op' d e f := by
  rw [decodeNibbles, decodeNibbles, h]

/-- Two halfwords that agree below bit 15 decode alike. -/
theorem decode16_congr {h h' : Half} (hl : h.extractLsb' 0 15 = h'.extractLsb' 0 15) : decode16 h = decode16 h' := by
  have field (lo : Nat) {n : Nat} (hn : lo + n ≤ 15) : h.extractLsb' lo n = h'.extractLsb' lo n := by
    have hf := congrArg (fun x : BitVec 15 => x.extractLsb' lo n) hl
    simpa only [field_field _ hn, Nat.zero_add] using hf
  have hop : (nib h 12).extractLsb' 0 3 = (nib h' 12).extractLsb' 0 3 := by
    rw [nib, nib, field_field h (by omega), field_field h' (by omega)]
    exact field 12 (by omega)
  have hd : nib h 8 = nib h' 8 := field 8 (by omega)
  have he : nib h 4 = nib h' 4 := field 4 (by omega)
  have hf : nib h 0 = nib h' 0 := field 0 (by omega)
  rw [decode16, decode16, decodeNibbles_congr hop, hd, he, hf]

/-- Settles O4, since bit 15 is above the bits that are compared. -/
theorem executionBitIsIgnored : Obligations.ExecutionBitIsIgnored := fun h =>
  decode16_congr (by rw [BitVec.extractLsb'_xor]; exact BitVec.xor_zero)

end Sys2Proof

/-! ## Encoding undoes decoding (30_encoding.md R130, R131, 92_eei_decisions.md D5)

The decoder reads a field at a time, so each of its functions is taken by itself: whatever it answers is well-formed and
is encoded by the very fields it was given. Its branches fix a field to a value, which the encoder writes as a literal,
or name an operand by a field, which the encoder writes back. -/

namespace Sys2Proof

/-- Whatever is decoded is well-formed, and `c` is its encoding. -/
def DecodedFrom (c : Code) (o : Option Instr) : Prop := ∀ i, o = some i → i.wf = true ∧ encode i = c

section DecodedFrom

variable {c : Code} {i : Instr} {o : Option Instr}

theorem decodedFrom_none : DecodedFrom c none := by rintro _ ⟨⟩

theorem decodedFrom_some (hw : i.wf = true) (hc : encode i = c) : DecodedFrom c (some i) := by
  rintro _ ⟨⟩
  exact ⟨hw, hc⟩

theorem decodedFrom_if {p : Prop} [Decidable p] (h : p → DecodedFrom c o) :
    DecodedFrom c (if p then o else none) := by
  split
  · next hp => exact h hp
  · exact decodedFrom_none

end DecodedFrom

/-- A field that the decoder compares with a number is that literal. -/
theorem field_eq {n k : Nat} {b : BitVec n} (h : b.toNat = k) : b = BitVec.ofNat n k :=
  h ▸ (BitVec.ofNat_toNat n b).trans (BitVec.setWidth_eq b) |>.symm

/-! ### Packed fields -/

theorem halfImm8_nibs (op d e f : BitVec 4) : halfImm8 op d (e ++ f) = half4 op d e f :=
  congrArg Code.half (BitVec.append_assoc (x₁ := op ++ d) (x₂ := e) (x₃ := f)).symm

theorem wordImm24_nibs (op d e f : BitVec 4) (c : BitVec 16) : wordImm24 op d (e ++ f ++ c) = word4 op d e f c := by
  have hef := BitVec.append_assoc (x₁ := op ++ d) (x₂ := e) (x₃ := f)
  have hc := BitVec.append_assoc (x₁ := op ++ d) (x₂ := e ++ f) (x₃ := c)
  rw [BitVec.cast_eq] at hef hc
  rw [wordImm24, word4, hef, hc]

theorem shiftCode_nibs (op : BitVec 3) (d e f : BitVec 4) (h : e.extractLsb' 1 3 = op) :
    shiftCode d op (e.extractLsb' 0 1 ++ f) = half4 5 d e f := by
  have hbit : (e.extractLsb' 0 1 ++ f).extractLsb' 4 1 = e.extractLsb' 0 1 := (field_high _ f 0 1).trans (field_all _)
  have hlow : (e.extractLsb' 0 1 ++ f).extractLsb' 0 4 = f := field_low _ f
  have he : op ++ e.extractLsb' 0 1 = e := h ▸ fields_join (n := 3) (m := 1) e
  rw [shiftCode, hbit, hlow, he]

/-- The fields `dd00` of an accumulator and two literal bits. -/
theorem accNibble_join {d : BitVec 4} {a : Acc} {x : BitVec 2} (ha : accOf (d.extractLsb' 2 2) = some a)
    (hx : d.extractLsb' 0 2 = x) : accBits a ++ x = d := by
  rw [accBits_of_accOf ha, ← hx]
  exact fields_join (n := 2) (m := 2) d

theorem countNibble_join {f : BitVec 4} {a : Acc} (ha : accOf (f.extractLsb' 2 2) = some a) (h : f.getLsbD 1 = false) :
    accBits a ++ 0#1 ++ f.extractLsb' 0 1 = f := by
  rw [accBits_of_accOf ha]
  clear ha
  revert f
  decide

theorem roundCode_nibs {op d f : BitVec 4} {ad as : Acc} (hd : accOf (d.extractLsb' 2 2) = some ad)
    (hf : accOf (f.extractLsb' 2 2) = some as) (hd0 : d.extractLsb' 0 2 = 0#2) (hf1 : f.getLsbD 1 = false) :
    roundCode op ad as ((f.extractLsb' 0 1).toNat + 1) = half4 5 d op f := by
  rw [roundCode, accNibble_join hd hd0, Nat.add_sub_cancel, ← field_eq rfl, countNibble_join hf hf1]

theorem imm1Ok_bit (b : BitVec 1) : imm1Ok (b.toNat + 1) = true := by revert b; decide

theorem copCode_nibs (d e f : BitVec 4) {c : BitVec 16} (h : nib c 8 = 0#4) :
    copCode d e f (c.extractLsb' 0 8) (regOf (nib c 12)) = word4 13 d e f c := by
  have hc : nib c 12 ++ nib c 8 ++ (nib c 4 ++ nib c 0) = c :=
    (BitVec.append_assoc (x₁ := nib c 12 ++ nib c 8) (x₂ := nib c 4) (x₃ := nib c 0)).symm.trans (half_nibs c)
  have hl : nib c 4 ++ nib c 0 = c.extractLsb' 0 8 := by
    rw [← byte_nibs (c.extractLsb' 0 8), nib, nib, nib, nib, field_field c (by omega), field_field c (by omega)]
  rw [hl, h] at hc
  rw [copCode, regBits_regOf, hc]

/-! ### The decoder of halfwords -/

theorem decodedFrom_decodeOp0 (d e f : BitVec 4) : DecodedFrom (half4 0 d e f) (decodeOp0 d e f) := by
  unfold decodeOp0
  split
  case h_8 he => -- CMPZ, PCMPBZ
    cases field_eq he
    split
    case h_3 => exact decodedFrom_none
    all_goals
      next hd => cases field_eq hd; exact decodedFrom_some rfl rfl
  case h_16 => -- BTST, in the only nibble that is left
    have he : e.toNat = 15 := by have hlt := e.isLt; grind
    cases field_eq he
    split
    · exact decodedFrom_none
    · next hd => exact decodedFrom_some rfl (by rw [encode, bitposBits_of_field (by simpa using hd)]; rfl)
  all_goals
    next he => cases field_eq he; exact decodedFrom_some rfl rfl

theorem decodedFrom_decodeOp1 (d e f : BitVec 4) : DecodedFrom (half4 1 d e f) (decodeOp1 d e f) := by
  unfold decodeOp1
  split
  case h_8 he => -- the jumps
    cases field_eq he
    split
    case h_5 => exact decodedFrom_none
    all_goals
      next hd => cases field_eq hd; exact decodedFrom_some rfl rfl
  case h_9 he => -- RTE
    cases field_eq he
    exact decodedFrom_if (by rintro ⟨rfl, rfl⟩; exact decodedFrom_some rfl rfl)
  case h_10 he => -- TRAP
    cases field_eq he
    exact decodedFrom_if (by rintro rfl; exact decodedFrom_some rfl rfl)
  case h_11 => exact decodedFrom_none
  all_goals
    next he => cases field_eq he; exact decodedFrom_some rfl rfl

theorem decodedFrom_decodeOp2 (d e f : BitVec 4) : DecodedFrom (half4 2 d e f) (decodeOp2 d e f) := by
  unfold decodeOp2
  split
  case h_16 => exact decodedFrom_none
  all_goals
    next he => cases field_eq he; exact decodedFrom_some rfl rfl

theorem decodedFrom_decodeOp3 (d e f : BitVec 4) : DecodedFrom (half4 3 d e f) (decodeOp3 d e f) := by
  unfold decodeOp3
  split
  case h_13 => exact decodedFrom_none
  all_goals
    next he => cases field_eq he; exact decodedFrom_some rfl rfl

theorem decodedFrom_decodeMvtac (d f : BitVec 4) : DecodedFrom (half4 5 d 7 f) (decodeMvtac d f) := by
  unfold decodeMvtac
  split
  case h_3 => exact decodedFrom_none
  all_goals
    next ha hx => exact decodedFrom_some rfl (congrArg (half4 5 d 7) (accNibble_join ha (field_eq hx)))

theorem decodedFrom_decodeMvfac (d f : BitVec 4) : DecodedFrom (half4 5 d 15 f) (decodeMvfac d f) := by
  unfold decodeMvfac
  split
  case h_4 => exact decodedFrom_none
  all_goals
    next ha hx => exact decodedFrom_some rfl (congrArg (half4 5 d 15) (accNibble_join ha (field_eq hx)))

theorem decodedFrom_decodeRound {mk : Acc → Acc → Nat → Instr} {op : BitVec 4}
    (hw : ∀ ad as n, (mk ad as n).wf = imm1Ok n) (hc : ∀ ad as n, encode (mk ad as n) = roundCode op ad as n)
    (d f : BitVec 4) : DecodedFrom (half4 5 d op f) (decodeRound mk d f) := by
  refine decodedFrom_if fun ⟨hd0, hf1⟩ => ?_
  split
  · next hd hf => exact decodedFrom_some ((hw ..).trans (imm1Ok_bit _)) ((hc ..).trans (roundCode_nibs hd hf hd0 hf1))
  · exact decodedFrom_none

theorem decodedFrom_decodeOp5 (d e f : BitVec 4) : DecodedFrom (half4 5 d e f) (decodeOp5 d e f) := by
  unfold decodeOp5
  split
  case h_4 => -- all but the shifts
    split
    case h_1 he => cases field_eq he; exact decodedFrom_decodeMvtac d f
    case h_2 he => cases field_eq he; exact decodedFrom_decodeRound (fun _ _ _ => rfl) (fun _ _ _ => rfl) d f
    case h_3 he => cases field_eq he; exact decodedFrom_decodeRound (fun _ _ _ => rfl) (fun _ _ _ => rfl) d f
    case h_8 he => -- SADD
      cases field_eq he
      exact decodedFrom_if (by rintro ⟨rfl, rfl⟩; exact decodedFrom_some rfl rfl)
    case h_9 he => cases field_eq he; exact decodedFrom_decodeMvfac d f
    case h_10 => exact decodedFrom_none
    all_goals
      next he => cases field_eq he; exact decodedFrom_some rfl rfl
  all_goals
    next he => exact decodedFrom_some rfl (shiftCode_nibs _ d e f (field_eq he))

theorem decodedFrom_decodeOp7 (d e f : BitVec 4) : DecodedFrom (half4 7 d e f) (decodeOp7 d e f) := by
  unfold decodeOp7
  split
  case h_12 => exact decodedFrom_none
  case h_1 hd | h_4 hd | h_5 hd => -- NOP, SC, SNC
    cases field_eq hd
    exact decodedFrom_if (by rintro ⟨rfl, rfl⟩; exact decodedFrom_some rfl rfl)
  all_goals
    next hd => cases field_eq hd; exact decodedFrom_some rfl (halfImm8_nibs ..)

/-- A nibble whose top bit is 0 is its other three bits. -/
theorem nibble_eq {op : BitVec 4} (h3 : op.getLsbD 3 = false) {k : Nat} (h : (op.extractLsb' 0 3).toNat = k) :
    op = BitVec.ofNat 4 k := by
  subst h
  revert op
  decide

theorem decodedFrom_decodeNibbles {op : BitVec 4} (h3 : op.getLsbD 3 = false) (d e f : BitVec 4) :
    DecodedFrom (half4 op d e f) (decodeNibbles op d e f) := by
  unfold decodeNibbles
  split
  case h_1 h => cases nibble_eq h3 h; exact decodedFrom_decodeOp0 d e f
  case h_2 h => cases nibble_eq h3 h; exact decodedFrom_decodeOp1 d e f
  case h_3 h => cases nibble_eq h3 h; exact decodedFrom_decodeOp2 d e f
  case h_4 h => cases nibble_eq h3 h; exact decodedFrom_decodeOp3 d e f
  case h_5 h => cases nibble_eq h3 h; exact decodedFrom_some rfl (halfImm8_nibs ..)
  case h_6 h => cases nibble_eq h3 h; exact decodedFrom_decodeOp5 d e f
  case h_7 h => cases nibble_eq h3 h; exact decodedFrom_some rfl (halfImm8_nibs ..)
  case h_8 =>
    have h : (op.extractLsb' 0 3).toNat = 7 := by have hlt := (op.extractLsb' 0 3).isLt; grind
    cases nibble_eq h3 h
    exact decodedFrom_decodeOp7 d e f

/-! ### The decoder of words -/

theorem decodedFrom_decodeOp8 (d e f : BitVec 4) (c : BitVec 16) :
    DecodedFrom (word4 8 d e f c) (decodeOp8 d e f c) := by
  unfold decodeOp8
  split
  case h_1 he | h_2 he => -- CMPI, CMPUI
    cases field_eq he
    exact decodedFrom_if (by rintro rfl; exact decodedFrom_some rfl rfl)
  case h_3 he => -- SATB, SATH
    cases field_eq he
    split
    case h_3 => exact decodedFrom_none
    all_goals
      next hc => cases field_eq hc; exact decodedFrom_some rfl rfl
  case h_9 => exact decodedFrom_none
  all_goals
    next he => cases field_eq he; exact decodedFrom_some rfl rfl

/-- The three sizes of a division, when the instructions of the three sizes are those the encoder writes so. -/
theorem decodedFrom_decodeDiv {op d e f : BitVec 4} {word half byte : Instr}
    (hword : DecodedFrom (word4 op d e f 0x0000) (some word)) (hhalf : DecodedFrom (word4 op d e f 0x0010) (some half))
    (hbyte : DecodedFrom (word4 op d e f 0x0018) (some byte)) (c : BitVec 16) :
    DecodedFrom (word4 op d e f c) (decodeDiv c word half byte) := by
  unfold decodeDiv
  split
  case h_1 hc => cases field_eq hc; exact hword
  case h_2 hc => cases field_eq hc; exact hhalf
  case h_3 hc => cases field_eq hc; exact hbyte
  case h_4 => exact decodedFrom_none

theorem decodedFrom_decodeOp9 (d e f : BitVec 4) (c : BitVec 16) :
    DecodedFrom (word4 9 d e f c) (decodeOp9 d e f c) := by
  unfold decodeOp9
  split
  case h_1 he | h_2 he | h_3 he | h_4 he => -- the divisions
    cases field_eq he
    exact decodedFrom_decodeDiv (decodedFrom_some rfl rfl) (decodedFrom_some rfl rfl) (decodedFrom_some rfl rfl) c
  case h_8 he => -- LDI
    cases field_eq he
    exact decodedFrom_if (by rintro rfl; exact decodedFrom_some rfl rfl)
  case h_9 => exact decodedFrom_none
  all_goals
    next he => cases field_eq he; exact decodedFrom_some rfl rfl

theorem decodedFrom_decodeOpA (d e f : BitVec 4) (c : BitVec 16) :
    DecodedFrom (word4 10 d e f c) (decodeOpA d e f c) := by
  unfold decodeOpA
  split
  case h_4 he | h_5 he => -- BSET, BCLR
    cases field_eq he
    split
    · exact decodedFrom_none
    · next hd => exact decodedFrom_some rfl (by rw [encode, bitposBits_of_field (by simpa using hd)]; rfl)
  case h_11 => exact decodedFrom_none
  all_goals
    next he => cases field_eq he; exact decodedFrom_some rfl rfl

theorem decodedFrom_decodeBranchZero (e f : BitVec 4) (c : BitVec 16) :
    DecodedFrom (word4 11 0 e f c) (decodeBranchZero e f c) := by
  unfold decodeBranchZero
  split
  case h_7 => exact decodedFrom_none
  all_goals
    next he => cases field_eq he; exact decodedFrom_some rfl rfl

theorem decodedFrom_decodeOpB (d e f : BitVec 4) (c : BitVec 16) :
    DecodedFrom (word4 11 d e f c) (decodeOpB d e f c) := by
  unfold decodeOpB
  split
  case h_3 => -- the comparisons with zero
    exact decodedFrom_if (by rintro rfl; exact decodedFrom_decodeBranchZero e f c)
  all_goals
    next he => cases field_eq he; exact decodedFrom_some rfl rfl

theorem decodedFrom_decodeOpD (d e f : BitVec 4) (c : BitVec 16) :
    DecodedFrom (word4 13 d e f c) (decodeOpD d e f c) := by
  unfold decodeOpD
  split
  case h_4 he => -- SETH
    cases field_eq he
    exact decodedFrom_if (by rintro rfl; exact decodedFrom_some rfl rfl)
  case h_5 => exact decodedFrom_none
  all_goals
    next he =>
    cases field_eq he
    exact decodedFrom_if fun h0 => decodedFrom_some rfl (copCode_nibs _ _ _ h0)

theorem decodedFrom_decodeOpF (d e f : BitVec 4) (c : BitVec 16) :
    DecodedFrom (word4 15 d e f c) (decodeOpF d (e ++ f ++ c)) := by
  unfold decodeOpF
  split
  case h_7 => exact decodedFrom_none
  all_goals
    next hd => cases field_eq hd; exact decodedFrom_some rfl (wordImm24_nibs ..)

theorem decodedFrom_decodeFields (op d e f : BitVec 4) (c : BitVec 16) :
    DecodedFrom (word4 op d e f c) (decodeFields op d e f c) := by
  unfold decodeFields
  split
  case h_1 h => cases field_eq h; exact decodedFrom_decodeOp8 d e f c
  case h_2 h => cases field_eq h; exact decodedFrom_decodeOp9 d e f c
  case h_3 h => cases field_eq h; exact decodedFrom_decodeOpA d e f c
  case h_4 h => cases field_eq h; exact decodedFrom_decodeOpB d e f c
  case h_5 h => cases field_eq h; exact decodedFrom_decodeOpD d e f c
  case h_6 h => cases field_eq h; exact decodedFrom_some rfl (wordImm24_nibs ..)
  case h_7 h => cases field_eq h; exact decodedFrom_decodeOpF d e f c
  case h_8 => exact decodedFrom_none

/-! ### Halfwords and words -/

/-- A halfword with bit 15 clear. -/
theorem encode_of_decode16 {h : Half} {i : Instr} (h15 : h.getLsbD 15 = false) (hi : decode16 h = .ok i) :
    i.wf = true ∧ encode i = .half h := by
  have h3 : (nib h 12).getLsbD 3 = false := by rw [nib, BitVec.getLsbD_extractLsb', h15]; rfl
  unfold decode16 at hi
  split at hi
  · next j hj =>
    cases hi
    obtain ⟨hw, he⟩ := decodedFrom_decodeNibbles h3 _ _ _ _ hj
    exact ⟨hw, he.trans (congrArg Code.half (half_nibs h))⟩
  · cases hi

theorem encode_of_decode32 {w : Word} {i : Instr} (hi : decode32 w = .ok i) : i.wf = true ∧ encode i = .word w := by
  unfold decode32 at hi
  split at hi
  · next j hj =>
    cases hi
    obtain ⟨hw, he⟩ := decodedFrom_decodeFields _ _ _ _ _ _ hj
    exact ⟨hw, he.trans (congrArg Code.word (word_fields w))⟩
  · cases hi

/-- Settles O2: a halfword decodes as it does with bit 15 cleared, and the fields make up the halfword or word. -/
theorem encodeUndoesDecode : Obligations.EncodeUndoesDecode := by
  refine ⟨fun h i hi => encode_of_decode16 ?_ ?_, fun _ _ => encode_of_decode32⟩
  · rw [BitVec.getLsbD_and]
    exact Bool.and_false _
  · rw [← hi]
    refine decode16_congr ?_
    rw [BitVec.extractLsb'_and]
    exact BitVec.and_allOnes

end Sys2Proof

/-! ## The first bit tells the length (30_encoding.md R121, R148) -/

namespace Sys2Proof

/-- Settles O3: the first bit is the top bit of op1, whose literal stands at the head of each of the four shapes. -/
theorem encodingsTellTheirLength : Obligations.EncodingsTellTheirLength := by
  intro i
  cases i with
  | addi | ldi8 | setpsw | clrpsw | bcl8 | bncl8 | bc8 | bnc8 | bl8 | bra8 =>
    exact ⟨Laws.halfImm8_msb _ _ _ rfl, Pipe.noConfusion⟩
  | ld24 | bcl24 | bncl24 | bc24 | bnc24 | bl24 | bra24 => exact ⟨Laws.wordImm24_msb _ _ _ rfl, rfl⟩
  | cmpi | cmpui | sath | satb | addv3 | add3 | and3 | xor3 | or3
  | div | divh | divb | divu | divuh | divub | rem | remh | remb | remu | remuh | remub | srl3 | sra3 | sll3 | ldi16
  | stbDisp | sthDisp | stDisp | bset | bclr | ldbDisp | ldubDisp | ldhDisp | lduhDisp | ldDisp
  | beq | bne | beqz | bnez | bltz | bgez | blez | bgtz | mvfcp | mvtcp | opecp | seth =>
    exact ⟨Laws.word4_msb _ _ _ _ _ rfl, rfl⟩
  | _ => exact ⟨Laws.half4_msb _ _ _ _ rfl, Pipe.noConfusion⟩

end Sys2Proof

/-! ## `A || NOP` is A (30_encoding.md R147)

NOP writes nothing, so the merge leaves the upper instruction's state but for `freeCount`, which becomes the larger of
the two counts; that is the upper instruction's, since no instruction counts down. -/

namespace Sys2Proof.Machine

/-! ### The counter of free values never goes down -/

/-- No more free values have been used in `s` than in `t`. -/
def CountsUp (s t : State) : Prop := s.freeCount ≤ t.freeCount

theorem countsUp_of_eq {s t : State} (h : t.freeCount = s.freeCount) : CountsUp s t := Nat.le_of_eq h.symm

theorem State.divideInto_freeCount (s : State) (d : Reg) (n m : Int) :
    (s.divideInto d n m).freeCount = s.freeCount := by
  unfold State.divideInto
  split
  · rfl
  · exact s.setReg_freeCount ..

theorem State.remainderInto_freeCount (s : State) (d : Reg) (n m : Int) :
    (s.remainderInto d n m).freeCount = s.freeCount := by
  unfold State.remainderInto
  split
  · rfl
  · exact s.setReg_freeCount ..

theorem State.writeCr_freeCount {s t : State} {cr : CrNum} {v : Word} (h : s.writeCr cr v = .ok t) :
    t.freeCount = s.freeCount := by
  obtain ⟨-, rfl⟩ | ⟨-, rfl⟩ | ⟨-, rfl⟩ | ⟨-, rfl⟩ | ⟨-, -, rfl⟩ | ⟨-, rfl⟩ := writeCr_cases h <;> rfl

/-- A link branch writes R14 or nothing. -/
theorem countsUp_call (s : State) (taken : Bool) (target npc : Word) :
    CountsUp s (if taken then s.linkTo target else s.goto npc) := by
  split
  · exact countsUp_of_eq (s.setReg_freeCount ..)
  · exact countsUp_of_eq rfl

/-- An instruction that raises an exception uses no free value; of those that execute, MUL and an overflowing DIV use
some and count them. -/
theorem exec_countsUp (i : Instr) (s : State) : Ensures (CountsUp s) (exec i s) := by
  cases hr : raises i s with
  | some e =>
    rw [exec_of_raises hr]
    exact ensures_next (countsUp_of_eq rfl)
  | none =>
    cases i with
    | mul => exact ensures_next (by simp [CountsUp, State.destroyAccs])
    | div =>
      exact execDiv_ensures (ensures_next (by simp [CountsUp]))
        fun n m => ensures_next (countsUp_of_eq (s.divideInto_freeCount _ n m))
    | divh | divb | divu | divuh | divub => exact ensures_next (countsUp_of_eq (s.divideInto_freeCount ..))
    | rem | remh | remb | remu | remuh | remub => exact ensures_next (countsUp_of_eq (s.remainderInto_freeCount ..))
    | bl8 | bcl8 | bncl8 | jl | bl24 | bcl24 | bncl24 => exact ensures_next (countsUp_call ..)
    | mvfc => exact execMvfc_ensures fun _ => ensures_next (countsUp_of_eq (s.setReg_freeCount ..))
    | mvtc =>
      refine ensures_ifSupervisor_of_raises hr ?_
      split
      · next ht => exact ensures_next (countsUp_of_eq ((State.goto_freeCount ..).trans (State.writeCr_freeCount ht)))
      · exact ensures_refused _
    | ldInc =>
      exact execLdInc_ensures (fun _ _ => ensures_next (countsUp_of_eq (by simp))) fun _ => countsUp_of_eq rfl
    | unlock =>
      refine ensures_ifAligned_of_raises hr (ensures_next (countsUp_of_eq ?_))
      split
      · simp [State.storeWord]
      · rfl
    | rte | setpsw | clrpsw => exact ensures_ifSupervisor_of_raises hr (ensures_next (countsUp_of_eq rfl))
    | mvfcp | mvtcp | opecp => exact ensures_ifCoprocessor_of_raises hr (ensures_next (countsUp_of_eq (by simp)))
    | ld | ldh | lduh | lock | ldDisp | ldhDisp | lduhDisp =>
      exact ensures_ifAligned_of_raises hr (ensures_next (countsUp_of_eq (s.setReg_freeCount ..)))
    | ldb | ldub | ldbDisp | ldubDisp => exact ensures_next (countsUp_of_eq (s.setReg_freeCount ..))
    | st | stPreInc | stPreDec | stDisp =>
      exact ensures_ifAligned_of_raises hr (ensures_next (countsUp_of_eq (by simp [State.storeWord])))
    | sth | sthInc | sthDisp =>
      exact ensures_ifAligned_of_raises hr (ensures_next (countsUp_of_eq (by simp [State.storeHalf])))
    | stb | stbInc | stbDisp => exact ensures_next (countsUp_of_eq (by simp [State.storeByte]))
    | _ => exact ensures_next (countsUp_of_eq (by simp [State.accumulate]))

/-! ### The merge with NOP -/

theorem pairAllowed_nop {o : Instr} (h : o.pipe ≠ .wide) : pairAllowed o .nop = true := by
  unfold pairAllowed
  cases hp : o.pipe with
  | wide => exact absurd hp h
  | left | both | right => rfl

theorem merge_nop {o : Instr} {s sO sS : State} (h : sS.freeCount ≤ sO.freeCount) : merge o .nop s sO sS = sO := by
  have hm : max sO.freeCount sS.freeCount = sO.freeCount := Nat.max_eq_left h
  calc merge o .nop s sO sS = { sO with freeCount := max sO.freeCount sS.freeCount } := rfl
    _ = sO := by rw [hm]

theorem execPair_nop {o : Instr} (h : o.pipe ≠ .wide) (s : State) : execPair o .nop s = exec o s := by
  obtain ⟨hp, -⟩ | ⟨-, ⟨e, he, hx⟩ | ⟨-, ⟨hx, -⟩ | ⟨-, sO, hO, ⟨-, hstop⟩ | ⟨sS, hS, hx⟩⟩⟩⟩ :=
    execPair_cases (rfl : execPair o .nop s = _)
  · exact absurd (pairAllowed_nop h) (by simp [hp])
  · rw [hx, exec_of_raises he]
  · exact hx
  · exact absurd rfl (hstop _)
  · have hc : sS.freeCount = s.freeCount := by cases hS; rfl
    rw [hx, hO, merge_nop (hc.trans_le (exec_countsUp o s sO hO))]

theorem npc16_of_parallel {s : State} (hpc : s.pc.extractLsb' 0 2 = 0) (hp : s.parallelBit = true) :
    s.npc16 = s.pc + 4 := by
  simp [State.npc16, isWordBoundary, hpc, hp]

/-- Settles O56, from `execPair_nop`. -/
theorem pairWithNopIsTheInstructionAlone : Obligations.PairWithNopIsTheInstructionAlone :=
  fun _ s h => ⟨execPair_nop h s, npc16_of_parallel⟩

end Sys2Proof.Machine

/-! ## How a claim about one instruction is proved

What an instruction leaves unchanged is its frame (`exec_frame`), so a claim that it completes needs the next state and
what is read in that state. A failed check is an entry of the exception (`exec_of_raises`). -/

namespace Sys2Proof.Machine

section Completing

variable {i : Instr} {s t : State} {P : State → Prop} {ea : Word} {n : Nat} {e : Event}

/-- An instruction that raises nothing: its frame is at hand for the claim. -/
theorem gives_of_exec (hr : raises i s = none) (htrap : ∀ k, i ≠ .trap k) (hx : exec i s = .next t)
    (h : KeepsBut (writes i s) s t → P t) : Gives i s P :=
  ⟨t, hx, h (exec_frame hr htrap t hx)⟩

theorem aligned_iff : aligned ea n = true ↔ ea.toNat % n = 0 := beq_iff_eq

/-- An instruction that checks the alignment of `ea`, at an aligned address. -/
theorem gives_of_aligned (hr : raises i s = if aligned ea n then none else some e) (htrap : ∀ k, i ≠ .trap k)
    (ha : ea.toNat % n = 0) (hx : exec i s = s.ifAligned ea n (.next t))
    (h : KeepsBut (writes i s) s t → P t) : Gives i s P :=
  gives_of_exec (hr.trans (if_pos (aligned_iff.mpr ha))) htrap (hx.trans (ifAligned_pos (aligned_iff.mpr ha) _)) h

theorem traps_of_not_aligned (hr : raises i s = if aligned ea n then none else some e) (ha : ea.toNat % n ≠ 0) :
    Traps i s e :=
  exec_of_raises (hr.trans (if_neg (ha ∘ aligned_iff.mp)))

end Completing

end Sys2Proof.Machine

/-! ## Loads and stores (40_load_store.md R200-R209) -/

namespace Sys2Proof.Machine

/-! ### What is read after a load -/

@[simp] theorem State.loadWord_reg (s : State) (d : Reg) (ea : Word) : (s.loadWord d ea).reg d = s.readWord ea :=
  s.setReg_reg_same d _

theorem State.loadByteSigned_reg (s : State) (d : Reg) (ea : Word) :
    ((s.loadByteSigned d ea).reg d).toInt = (s.readByte ea).toInt := by
  rw [State.loadByteSigned, State.setReg_reg_same]
  exact BitVec.toInt_signExtend_of_le (by decide)

theorem State.loadByteUnsigned_reg (s : State) (d : Reg) (ea : Word) :
    ((s.loadByteUnsigned d ea).reg d).toNat = (s.readByte ea).toNat := by
  rw [State.loadByteUnsigned, State.setReg_reg_same]
  exact BitVec.toNat_setWidth_of_le (by decide)

theorem State.loadHalfSigned_reg (s : State) (d : Reg) (ea : Word) :
    ((s.loadHalfSigned d ea).reg d).toInt = (s.readHalf ea).toInt := by
  rw [State.loadHalfSigned, State.setReg_reg_same]
  exact BitVec.toInt_signExtend_of_le (by decide)

theorem State.loadHalfUnsigned_reg (s : State) (d : Reg) (ea : Word) :
    ((s.loadHalfUnsigned d ea).reg d).toNat = (s.readHalf ea).toNat := by
  rw [State.loadHalfUnsigned, State.setReg_reg_same]
  exact BitVec.toNat_setWidth_of_le (by decide)

/-! ### What is read after a store -/

@[simp] theorem State.storeWord_readWord (s : State) (r : Reg) (ea : Word) :
    (s.storeWord r ea).readWord ea = s.reg r := s.writeWord_readWord ea _

@[simp] theorem State.storeHalf_readHalf (s : State) (r : Reg) (ea : Word) :
    (s.storeHalf r ea).readHalf ea = (s.reg r).extractLsb' 0 16 := s.writeHalf_readHalf ea _

@[simp] theorem State.storeByte_readByte (s : State) (r : Reg) (ea : Word) :
    (s.storeByte r ea).readByte ea = (s.reg r).extractLsb' 0 8 := by
  simp [State.storeByte]

theorem State.setLock_readWord (s : State) (b : Bool) (a : Word) : { s with lock := b }.readWord a = s.readWord a := rfl

/-! ### The meanings that are more than a load or a store -/

/-- With two registers, LD with post-increment writes both (R200 form 2). -/
theorem execLdInc_of_ne {dest src : Reg} (h : dest ≠ src) (s : State) :
    execLdInc dest src s = s.ifAligned (s.eaReg src) 4
      (s.done16 ((s.setReg src (s.reg src + 4)).setReg dest (s.readWord (s.eaReg src)))) := by
  rw [execLdInc, if_neg h]

/-- UNLOCK with LOCK = 1 stores and clears LOCK (R209). -/
theorem execUnlock_of_locked (src1 src2 : Reg) {s : State} (h : s.lock = true) :
    execUnlock src1 src2 s = s.ifAligned (s.eaReg src2) 4
      (s.done16 { s.storeWord src1 (s.eaReg src2) with lock := false }) := by
  rw [execUnlock, if_pos h]

/-- UNLOCK with LOCK = 0 has nothing to store and nothing to clear (R209). -/
theorem execUnlock_of_not_locked (src1 src2 : Reg) {s : State} (h : s.lock = false) :
    execUnlock src1 src2 s = s.ifAligned (s.eaReg src2) 4 (s.done16 s) := by
  have hs : { s with lock := false } = s := by rw [← h]
  rw [execUnlock, if_neg (by simp [h]), hs]

/-- The base that pre-increment gives is at a word boundary exactly when the old base is; the address space is a whole
number of words. -/
theorem eaPreInc_mod_four (s : State) (r : Reg) : (s.eaPreInc r).toNat % 4 = (s.reg r).toNat % 4 := by
  rw [State.eaPreInc]
  bv_omega

theorem eaPreDec_mod_four (s : State) (r : Reg) : (s.eaPreDec r).toNat % 4 = (s.reg r).toNat % 4 := by
  rw [State.eaPreDec]
  bv_omega

/-! ### The statements -/

/-- Settles O30: each load from a boundary by what it reads, off it by `traps_of_not_aligned`. -/
theorem wordLoads : Obligations.WordLoads := by
  intro dest src disp16 s
  refine ⟨fun ha => ⟨?ld, fun hne => ?ldInc, ?lock⟩, fun ha => ⟨?_, ?_, ?_⟩, fun ha => ?ldDisp, fun ha => ?_⟩
  case ld | ldDisp => exact gives_of_aligned rfl nofun ha rfl fun hk => ⟨rfl, s.loadWord_reg dest _, hk⟩
  case ldInc =>
    refine gives_of_aligned rfl nofun ha (execLdInc_of_ne hne s) fun hk => ⟨rfl, ?_, ?_, hk⟩
    · simp [State.eaReg]
    · simp [State.setReg_reg, hne.symm]
  case lock => exact gives_of_aligned rfl nofun ha rfl fun hk => ⟨rfl, rfl, s.loadWord_reg dest _, hk⟩
  all_goals exact traps_of_not_aligned rfl ha

/-- Settles O31, by what each of the four loads leaves in its destination; a byte load makes no check. -/
theorem byteAndHalfwordLoads : Obligations.ByteAndHalfwordLoads := by
  intro dest src disp16 s
  refine ⟨?ldb, ?ldub, ?ldbDisp, ?ldubDisp, fun ha => ⟨?ldh, ?lduh⟩, fun ha => ⟨?_, ?_⟩,
    fun ha => ⟨?ldhDisp, ?lduhDisp⟩, fun ha => ⟨?_, ?_⟩⟩
  case ldb | ldbDisp => exact gives_of_exec rfl nofun rfl fun hk => ⟨rfl, s.loadByteSigned_reg dest _, hk⟩
  case ldub | ldubDisp => exact gives_of_exec rfl nofun rfl fun hk => ⟨rfl, s.loadByteUnsigned_reg dest _, hk⟩
  case ldh | ldhDisp => exact gives_of_aligned rfl nofun ha rfl fun hk => ⟨rfl, s.loadHalfSigned_reg dest _, hk⟩
  case lduh | lduhDisp => exact gives_of_aligned rfl nofun ha rfl fun hk => ⟨rfl, s.loadHalfUnsigned_reg dest _, hk⟩
  all_goals exact traps_of_not_aligned rfl ha

/-- Settles O32: the updating forms check the updated base, which is at a boundary when the old one is. -/
theorem wordStores : Obligations.WordStores := by
  intro src1 src2 disp16 s
  have hinc := eaPreInc_mod_four s src2
  have hdec := eaPreDec_mod_four s src2
  refine ⟨fun ha => ⟨?st, ?stPreInc, ?stPreDec⟩, fun ha => ⟨?trapSt, ?trapInc, ?trapDec⟩, fun ha => ?stDisp,
    fun ha => ?trapDisp⟩
  case st | stDisp =>
    exact gives_of_aligned rfl nofun ha rfl fun hk =>
      ⟨rfl, (State.goto_readWord ..).trans (s.storeWord_readWord src1 _), hk⟩
  case stPreInc =>
    refine gives_of_aligned rfl nofun (hinc.trans ha) rfl fun hk => ⟨rfl, ?_, State.setReg_reg_same .., hk⟩
    simp [State.eaPreInc]
  case stPreDec =>
    refine gives_of_aligned rfl nofun (hdec.trans ha) rfl fun hk => ⟨rfl, ?_, State.setReg_reg_same .., hk⟩
    simp [State.eaPreDec]
  case trapSt | trapDisp => exact traps_of_not_aligned rfl ha
  case trapInc => exact traps_of_not_aligned rfl (hinc.trans_ne ha)
  case trapDec => exact traps_of_not_aligned rfl (hdec.trans_ne ha)

/-- Settles O33, by what is read back after each store; a byte store makes no check. -/
theorem byteAndHalfwordStores : Obligations.ByteAndHalfwordStores := by
  intro src1 src2 disp16 s
  refine ⟨?stb, ?stbInc, ?stbDisp, fun ha => ⟨?sth, ?sthInc⟩, fun ha => ⟨?_, ?_⟩, fun ha => ?sthDisp, fun ha => ?_⟩
  case stb | stbDisp => exact gives_of_exec rfl nofun rfl fun hk => ⟨rfl, s.storeByte_readByte src1 _, hk⟩
  case stbInc =>
    refine gives_of_exec rfl nofun rfl fun hk => ⟨rfl, ?_, State.setReg_reg_same .., hk⟩
    simp [State.eaReg]
  case sth | sthDisp => exact gives_of_aligned rfl nofun ha rfl fun hk => ⟨rfl, s.storeHalf_readHalf src1 _, hk⟩
  case sthInc =>
    refine gives_of_aligned rfl nofun ha rfl fun hk => ⟨rfl, ?_, State.setReg_reg_same .., hk⟩
    simp [State.eaReg]
  all_goals exact traps_of_not_aligned rfl ha

/-- Settles O34, by what LOCK holds. -/
theorem unlockStoresOnlyWhenLocked : Obligations.UnlockStoresOnlyWhenLocked := by
  intro src1 src2 s
  have hs : ∀ w, KeepsBut w s s := fun w => KeepsBut.refl w s
  refine ⟨fun ha hl => ?locked, fun ha hl => ?notLocked, fun ha => traps_of_not_aligned rfl ha⟩
  case locked =>
    refine gives_of_aligned rfl nofun ha (execUnlock_of_locked src1 src2 hl) fun _ => ⟨rfl, rfl, ?_, ?_⟩
    · rw [State.goto_readWord, State.setLock_readWord]
      exact s.storeWord_readWord src1 _
    · exact (((hs _).writeWord (List.Subset.refl _) _).setLock rfl _).goto _
  case notLocked =>
    exact gives_of_aligned rfl nofun ha (execUnlock_of_not_locked src1 src2 hl) fun _ => ⟨rfl, hl, (hs _).goto _⟩

end Sys2Proof.Machine

/-! ## Transfers (41_transfer.md R230-R235) -/

namespace Sys2Proof.Machine

/-! ### The instructions that write one register -/

/-- An instruction whose frame is one register and whose meaning writes it. -/
theorem writesReg_of_exec {i : Instr} {s : State} {dest : Reg} {npc v : Word} {P : Word → Prop}
    (hr : raises i s = none) (htrap : ∀ k, i ≠ .trap k) (hw : writes i s = { regs := [s.cellOf dest] })
    (hx : exec i s = .next ((s.setReg dest v).goto npc)) (hv : P v) : WritesReg i s dest npc P := by
  refine gives_of_exec hr htrap hx fun hk => ⟨rfl, ?_, hw ▸ hk⟩
  rwa [State.goto_reg, State.setReg_reg_same]

/-- The immediate of SETH is the upper half of the word. -/
theorem append_zero_toNat (v : BitVec 16) : (v ++ 0#16).toNat = v.toNat * 65536 := by
  rw [BitVec.toNat_append, BitVec.toNat_zero, Nat.or_zero, Nat.shiftLeft_eq]

/-- Settles O35, by the value that each instruction writes: the immediate extended, the source, the immediate as
upper half. -/
theorem transfers : Obligations.Transfers := by
  intro dest src imm8 imm16 imm24 s
  refine ⟨?ld24, ?ldi8, ?ldi16, ?mv, ?seth⟩
  case ld24 => exact writesReg_of_exec rfl nofun rfl rfl (BitVec.toNat_setWidth_of_le (by decide))
  case ldi8 | ldi16 => exact writesReg_of_exec rfl nofun rfl rfl (BitVec.toInt_signExtend_of_le (by decide))
  case mv => exact writesReg_of_exec rfl nofun rfl rfl rfl
  case seth => exact writesReg_of_exec rfl nofun rfl rfl (append_zero_toNat imm16)

/-! ### MVFC -/

theorem execMvfc_of_readCr {dest : Reg} {cr : CrNum} {s : State} {v : Word} (h : s.readCr cr = some v) :
    execMvfc dest cr s = s.done16 (s.setReg dest v) := by
  rw [execMvfc, h]

/-- What a control register reads is what MVFC writes, in either mode. -/
theorem writesReg_mvfc {dest : Reg} {cr : CrNum} {s : State} {v : Word} {P : Word → Prop}
    (h : s.readCr cr = some v) (hv : P v) : WritesReg (.mvfc dest cr) s dest s.npc16 P :=
  writesReg_of_exec rfl nofun rfl (execMvfc_of_readCr h) hv

/-- Settles O26, by what `State.readCr` answers for each of the six numbers. -/
theorem mvfcReadsControlRegisters : Obligations.MvfcReadsControlRegisters := by
  intro dest s
  refine ⟨?psw, ?cbr, ?spi, ?spu, ?evb, ?bpc⟩
  case cbr => exact writesReg_mvfc rfl (apply_ite BitVec.toNat _ _ _)
  case psw | spi | spu | evb | bpc => exact writesReg_mvfc rfl rfl

/-! ### MVTC -/

/-- The user space is the lower half of the address space (R92). -/
theorem State.inUserSpace_eq_false_iff {s : State} : s.inUserSpace = false ↔ 2147483648 ≤ s.pc.toNat := by
  have hmsb : s.pc.getLsbD 31 = decide (2147483648 ≤ s.pc.toNat) :=
    (BitVec.msb_eq_getLsbD_last s.pc).symm.trans (BitVec.msb_eq_decide s.pc)
  rw [State.inUserSpace, hmsb]
  simp

/-- A state marked as `State.markPm` marks `s` meets R571. -/
theorem marksPm_of_markPm {s t : State} {direct : Bool}
    (h : t.outsideGuarantee = (s.markPm direct).outsideGuarantee) : MarksPm direct s t := by
  simp [MarksPm, h, State.inUserSpace_eq_false_iff]

theorem raises_mvtc_of_supervisor (src : Reg) (cr : CrNum) {s : State} (hp : s.pm = false) :
    raises (.mvtc src cr) s = none := by
  simp [raises, hp]

theorem execMvtc_of_writeCr {src : Reg} {cr : CrNum} {s t : State} (hp : s.pm = false)
    (h : s.writeCr cr (s.reg src) = .ok t) : execMvtc src cr s = s.done16 t := by
  rw [execMvtc, ifSupervisor_pos hp, h]

/-- In supervisor mode MVTC is the write of the control register, with its frame at hand for the claim. -/
theorem gives_mvtc {src : Reg} {cr : CrNum} {s t : State} {P : State → Prop} (hp : s.pm = false)
    (h : s.writeCr cr (s.reg src) = .ok t)
    (hP : KeepsBut (writes (.mvtc src cr) s) s (t.goto s.npc16) → P (t.goto s.npc16)) : Gives (.mvtc src cr) s P :=
  gives_of_exec (raises_mvtc_of_supervisor src cr hp) nofun (execMvtc_of_writeCr hp h) hP

/-- Settles O27, by what `State.writeCr` stores for each number; the first write of EVB is `execMvtc_evb`. -/
theorem mvtcWritesControlRegisters : Obligations.MvtcWritesControlRegisters := by
  intro src s hp
  refine ⟨?psw, ?cbr, ?spi, ?spu, fun hw => ?evb, ?bpc⟩
  case psw => exact gives_mvtc hp rfl fun hk => ⟨rfl, rfl, marksPm_of_markPm rfl, hk⟩
  case cbr => exact gives_mvtc hp rfl fun hk => ⟨rfl, hk⟩
  case spi | spu | bpc => exact gives_mvtc hp rfl fun hk => ⟨rfl, rfl, hk⟩
  case evb =>
    exact gives_of_exec (raises_mvtc_of_supervisor src 5 hp) nofun (execMvtc_evb hp hw) fun hk =>
      ⟨rfl, rfl, rfl, hk⟩

end Sys2Proof.Machine

/-! ## Compare, arithmetic and logic (42_compare_arith_logic.md R250-R276) -/

namespace Sys2Proof.Machine

/-! ### What the operands and the condition bit are worth -/

theorem sext_toInt {n : Nat} (h : n ≤ 32) (v : BitVec n) : (sext v).toInt = v.toInt := BitVec.toInt_signExtend_of_le h

theorem zext_getLsbD {n : Nat} (h : n ≤ 32) (v : BitVec n) (k : Nat) : (zext v).getLsbD k = v.getLsbD k := by
  rw [zext, BitVec.getLsbD_setWidth, Bool.and_eq_right_iff_imp]
  intro hk
  have := BitVec.lt_of_getLsbD hk
  exact decide_eq_true (by omega)

theorem ltSigned_iff {a b : Word} : ltSigned a b = true ↔ a.toInt < b.toInt := decide_eq_true_iff

theorem ltUnsigned_iff {a b : Word} : ltUnsigned a b = true ↔ a.toNat < b.toNat := decide_eq_true_iff

/-- Byte `k` of a word, counted from the least significant. -/
theorem byte_beq_zero_iff (v : Word) (k : Nat) :
    (v.extractLsb' (8 * k) 8 == 0) = true ↔ v.toNat / 2 ^ (8 * k) % 256 = 0 := by
  rw [beq_iff_eq, BitVec.toNat_eq, BitVec.extractLsb'_toNat, Nat.shiftRight_eq_div_pow]
  rfl

theorem anyByteZero_iff {v : Word} : anyByteZero v = true ↔ ∃ k, k < 4 ∧ v.toNat / 2 ^ (8 * k) % 256 = 0 := by
  have byte := byte_beq_zero_iff v
  constructor
  · intro h
    simp only [anyByteZero, Bool.or_eq_true] at h
    obtain ((h | h) | h) | h := h
    · exact ⟨3, by decide, (byte 3).mp h⟩
    · exact ⟨2, by decide, (byte 2).mp h⟩
    · exact ⟨1, by decide, (byte 1).mp h⟩
    · exact ⟨0, by decide, (byte 0).mp h⟩
  · rintro ⟨k, hk, h⟩
    have hb := (byte k).mpr h
    simp only [anyByteZero, Bool.or_eq_true]
    interval_cases k
    · exact .inr hb
    · exact .inl (.inr hb)
    · exact .inl (.inl (.inr hb))
    · exact .inl (.inl (.inl hb))

/-! ### The exact results -/

theorem add_eq_ofInt (a b : Word) : a + b = BitVec.ofInt 32 (a.toInt + b.toInt) := by
  rw [BitVec.ofInt_add, BitVec.ofInt_toInt, BitVec.ofInt_toInt]

theorem add_sext_eq_ofInt {n : Nat} (h : n ≤ 32) (a : Word) (v : BitVec n) :
    a + sext v = BitVec.ofInt 32 (a.toInt + v.toInt) := by
  rw [add_eq_ofInt, sext_toInt h]

theorem sub_eq_ofInt (a b : Word) : a - b = BitVec.ofInt 32 (a.toInt - b.toInt) := by
  rw [Int.sub_eq_add_neg, BitVec.ofInt_add, BitVec.ofInt_neg, BitVec.ofInt_toInt, BitVec.ofInt_toInt,
    BitVec.sub_eq_add_neg]

theorem zero_sub_eq_ofInt (a : Word) : 0 - a = BitVec.ofInt 32 (-a.toInt) := by
  have hzero : (0 : Word).toInt = 0 := rfl
  rw [sub_eq_ofInt, hzero, Int.zero_sub]

/-- An exact result is out of range exactly when the word it wraps to has another value (R281). -/
theorem outOfRange_iff (n : Int) : outOfRange n = true ↔ (BitVec.ofInt 32 n).toInt ≠ n := by
  rw [outOfRange, decide_eq_true_iff, BitVec.toInt_ofInt, Ne, Int.bmod_eq_iff (by decide)]
  omega

theorem ovfAdd_iff (a b : Word) : ovfAdd a b = true ↔ (a + b).toInt ≠ a.toInt + b.toInt := by
  rw [add_eq_ofInt]
  exact outOfRange_iff _

theorem ovfSub_iff (a b : Word) : ovfSub a b = true ↔ (a - b).toInt ≠ a.toInt - b.toInt := by
  rw [sub_eq_ofInt]
  exact outOfRange_iff _

theorem carry_iff {a b : Word} {c : Bool} : carry a b c = true ↔ 4294967296 ≤ a.toNat + b.toNat + bitNat c :=
  decide_eq_true_iff

theorem borrow_iff {a b : Word} {c : Bool} : borrow a b c = true ↔ a.toNat < b.toNat + bitNat c := decide_eq_true_iff

theorem bitNat_le_one (c : Bool) : bitNat c ≤ 1 := by cases c <;> decide

theorem ofNat_bitNat_toNat (c : Bool) : (BitVec.ofNat 32 (bitNat c)).toNat = bitNat c := by cases c <;> rfl

/-- The carry is the bit above the 32 of the sum. -/
theorem add_carry_exact (a b : Word) (c : Bool) :
    (a + b + BitVec.ofNat 32 (bitNat c)).toNat + (if carry a b c then 4294967296 else 0)
      = a.toNat + b.toNat + bitNat c := by
  have hbit := bitNat_le_one c
  simp only [BitVec.toNat_add, ofNat_bitNat_toNat, carry_iff]
  split <;> omega

/-- The borrow is what the difference lacks to be exact. -/
theorem sub_borrow_exact (a b : Word) (c : Bool) :
    (a - b - BitVec.ofNat 32 (bitNat c)).toNat + b.toNat + bitNat c
      = a.toNat + (if borrow a b c then 4294967296 else 0) := by
  have hbit := bitNat_le_one c
  simp only [BitVec.toNat_sub, ofNat_bitNat_toNat, borrow_iff]
  split <;> omega

/-! ### The instructions that write C -/

/-- An instruction whose frame is C and whose meaning writes it. -/
theorem computesC_of_exec {i : Instr} {s : State} {npc : Word} {b : Bool} {P : Prop}
    (hr : raises i s = none) (htrap : ∀ k, i ≠ .trap k) (hw : writes i s = { psw := 1 })
    (hx : exec i s = .next ((s.setC b).goto npc)) (hb : b = true ↔ P) : ComputesC i s npc P := by
  refine gives_of_exec hr htrap hx fun hk => ⟨rfl, ?_, hw ▸ hk⟩
  rwa [State.goto_c, State.setC_c]

/-- An instruction whose frame is one register and C and whose meaning writes both. -/
theorem gives_reg_and_c {i : Instr} {s : State} {dest : Reg} {npc v : Word} {b : Bool} {P : State → Prop}
    (hr : raises i s = none) (htrap : ∀ k, i ≠ .trap k)
    (hw : writes i s = { regs := [s.cellOf dest], psw := 1 })
    (hx : exec i s = .next (((s.setReg dest v).setC b).goto npc))
    (h : ∀ t : State, t.pc = npc → t.reg dest = v → t.c = b →
      KeepsBut { regs := [s.cellOf dest], psw := 1 } s t → P t) : Gives i s P := by
  refine gives_of_exec hr htrap hx fun hk => h _ rfl ?_ ?_ (hw ▸ hk)
  · rw [State.goto_reg, State.setC_reg, State.setReg_reg_same]
  · rw [State.goto_c, State.setC_c]

/-! ### The statements -/

/-- Settles O36, by the relation that each comparison decides. -/
theorem comparesSetC : Obligations.ComparesSetC := by
  intro src1 src2 imm16 s
  have himm : (sext imm16).toInt = imm16.toInt := sext_toInt (by decide) imm16
  refine ⟨?cmp, ?cmpi, ?cmpu, ?cmpui, ?cmpeq, ?cmpz, ?pcmpbz⟩
  case cmp => exact computesC_of_exec rfl nofun rfl rfl ltSigned_iff
  case cmpi => exact computesC_of_exec rfl nofun rfl rfl (himm ▸ ltSigned_iff)
  case cmpu | cmpui => exact computesC_of_exec rfl nofun rfl rfl ltUnsigned_iff
  case cmpeq | cmpz => exact computesC_of_exec rfl nofun rfl rfl beq_iff_eq
  case pcmpbz => exact computesC_of_exec rfl nofun rfl rfl anyByteZero_iff

/-- Settles O37, by the exact result whose low 32 bits each instruction writes. -/
theorem arithmeticWraps : Obligations.ArithmeticWraps := by
  intro dest src imm8 imm16 s
  refine ⟨?add, ?add3, ?addi, ?neg, ?sub⟩
  case add => exact writesReg_of_exec rfl nofun rfl rfl (add_eq_ofInt _ _)
  case add3 | addi => exact writesReg_of_exec rfl nofun rfl rfl (add_sext_eq_ofInt (by decide) _ _)
  case neg => exact writesReg_of_exec rfl nofun rfl rfl (zero_sub_eq_ofInt _)
  case sub => exact writesReg_of_exec rfl nofun rfl rfl (sub_eq_ofInt _ _)

/-- Settles O38, by when an exact sum or difference is out of range. -/
theorem overflowIsReportedInC : Obligations.OverflowIsReportedInC := by
  intro dest src imm16 s
  have himm : (sext imm16).toInt = imm16.toInt := sext_toInt (by decide) imm16
  refine ⟨?addv, ?addv3, ?subv⟩
  case addv =>
    exact gives_reg_and_c rfl nofun rfl rfl fun t hpc hv hc hk => ⟨hpc, hv, by rw [hc, hv, ovfAdd_iff], hk⟩
  case addv3 =>
    exact gives_reg_and_c rfl nofun rfl rfl fun t hpc hv hc hk => ⟨hpc, hv, by rw [hc, hv, ovfAdd_iff, himm], hk⟩
  case subv =>
    exact gives_reg_and_c rfl nofun rfl rfl fun t hpc hv hc hk => ⟨hpc, hv, by rw [hc, hv, ovfSub_iff], hk⟩

/-- Settles O39, by `add_carry_exact` and `sub_borrow_exact`. -/
theorem carryAndBorrowAreExact : Obligations.CarryAndBorrowAreExact := by
  intro dest src s
  refine ⟨?addx, ?subx⟩
  case addx =>
    refine gives_reg_and_c rfl nofun rfl rfl fun t hpc hv hc hk => ⟨hpc, ?_, hk⟩
    rw [hv, hc]
    exact add_carry_exact _ _ s.c
  case subx =>
    refine gives_reg_and_c rfl nofun rfl rfl fun t hpc hv hc hk => ⟨hpc, ?_, hk⟩
    rw [hv, hc]
    exact sub_borrow_exact _ _ s.c

/-- Settles O40, bit by bit; a zero-extended immediate has the bits of the immediate. -/
theorem logicIsBitwise : Obligations.LogicIsBitwise := by
  intro dest src imm16 s
  have himm : ∀ n, (zext imm16).getLsbD n = imm16.getLsbD n := zext_getLsbD (by decide) imm16
  refine ⟨?and, ?or, ?xor, ?not, ?and3, ?or3, ?xor3⟩
  case and => exact writesReg_of_exec rfl nofun rfl rfl fun _ => BitVec.getLsbD_and
  case or => exact writesReg_of_exec rfl nofun rfl rfl fun _ => BitVec.getLsbD_or
  case xor => exact writesReg_of_exec rfl nofun rfl rfl fun _ => BitVec.getLsbD_xor
  case not => exact writesReg_of_exec rfl nofun rfl rfl fun n hn => by simp [hn]
  case and3 => exact writesReg_of_exec rfl nofun rfl rfl fun n => by rw [BitVec.getLsbD_and, himm]
  case or3 => exact writesReg_of_exec rfl nofun rfl rfl fun n => by rw [BitVec.getLsbD_or, himm]
  case xor3 => exact writesReg_of_exec rfl nofun rfl rfl fun n => by rw [BitVec.getLsbD_xor, himm]

end Sys2Proof.Machine

/-! ## Multiply, divide, remainder and shifts (43_muldiv_shift.md R300-R329) -/

namespace Sys2Proof.Machine

/-! ### The product, and the slices that are dividends -/

@[simp] theorem State.destroyAccs_reg (s : State) (r : Reg) : s.destroyAccs.reg r = s.reg r := by
  simp [State.destroyAccs]

theorem mul_eq_ofInt (a b : Word) : a * b = BitVec.ofInt 32 (a.toInt * b.toInt) := by
  rw [BitVec.ofInt_mul, BitVec.ofInt_toInt, BitVec.ofInt_toInt]

theorem setWidth_half (v : Word) : v.setWidth 16 = v.extractLsb' 0 16 := BitVec.setWidth_eq_extractLsb' (by decide)

theorem setWidth_byte (v : Word) : v.setWidth 8 = v.extractLsb' 0 8 := BitVec.setWidth_eq_extractLsb' (by decide)

/-! ### Division rounded toward 0 -/

/-- What R313 asks of a quotient and its remainder. -/
theorem tdiv_tmod_spec (n : Int) {m : Int} (hm : m ≠ 0) :
    n = n.tdiv m * m + n.tmod m ∧ (n.tmod m).natAbs < m.natAbs ∧ (0 ≤ n → 0 ≤ n.tmod m) ∧
      (n ≤ 0 → n.tmod m ≤ 0) := by
  refine ⟨(Int.tdiv_mul_add_tmod n m).symm, ?size, Int.tmod_nonneg m, fun hn => ?negative⟩
  case size =>
    rw [Int.natAbs_tmod]
    exact Nat.mod_lt _ (Int.natAbs_pos.mpr hm)
  case negative =>
    have h := Int.tmod_nonneg m (Int.neg_nonneg_of_nonpos hn)
    rw [Int.neg_tmod] at h
    omega

/-- An instruction that writes one register unless its divisor `m` is 0: the frame of either outcome. -/
theorem gives_unless_zero {i : Instr} {s : State} {dest : Reg} {m : Int} {v : Word} {P : State → Prop}
    (hr : raises i s = none) (htrap : ∀ k, i ≠ .trap k) (hw : writes i s = { regs := [s.cellOf dest] })
    (hx : exec i s = s.done32 (if m = 0 then s else s.setReg dest v))
    (h : ∀ t : State, t.pc = s.npc32 → (m = 0 → KeepsBut {} s t) →
      (m ≠ 0 → KeepsBut { regs := [s.cellOf dest] } s t ∧ t.reg dest = v) → P t) : Gives i s P := by
  refine gives_of_exec hr htrap hx fun hk => h _ rfl (fun hm => ?zero) fun hm => ⟨hw ▸ hk, ?value⟩
  case zero =>
    rw [if_pos hm]
    exact (KeepsBut.refl {} s).goto _
  case value => rw [if_neg hm, State.goto_reg, State.setReg_reg_same]

theorem dividesTo_of_exec {i : Instr} {s : State} {dest : Reg} {n m : Int}
    (hr : raises i s = none) (htrap : ∀ k, i ≠ .trap k) (hw : writes i s = { regs := [s.cellOf dest] })
    (hx : exec i s = s.done32 (s.divideInto dest n m)) : DividesTo i s dest n m := by
  refine gives_unless_zero hr htrap hw hx fun t hpc hzero hwrite => ⟨hpc, hzero, fun hm => ?_⟩
  obtain ⟨hk, hv⟩ := hwrite hm
  obtain ⟨hsum, hsize, hpos, hneg⟩ := tdiv_tmod_spec n hm
  exact ⟨hk, _, _, hsum, hsize, hpos, hneg, hv⟩

theorem leavesRemainder_of_exec {i : Instr} {s : State} {dest : Reg} {n m : Int}
    (hr : raises i s = none) (htrap : ∀ k, i ≠ .trap k) (hw : writes i s = { regs := [s.cellOf dest] })
    (hx : exec i s = s.done32 (s.remainderInto dest n m)) : LeavesRemainder i s dest n m := by
  refine gives_unless_zero hr htrap hw hx fun t hpc hzero hwrite => ⟨hpc, hzero, fun hm => ?_⟩
  obtain ⟨hk, hv⟩ := hwrite hm
  obtain ⟨hsum, hsize, hpos, hneg⟩ := tdiv_tmod_spec n hm
  exact ⟨hk, _, _, hsum, hsize, hpos, hneg, hv⟩

/-- The one quotient that no word holds, 2^31, is an unspecified word (R314, U13). -/
theorem execDiv_of_overflow {dest src : Reg} {s : State}
    (h : (s.reg dest).toInt = -2147483648 ∧ (s.reg src).toInt = -1) :
    execDiv dest src s = s.done32 ((s.setReg dest s.freeWord).useFree 1) := if_pos h

theorem execDiv_of_not_overflow {dest src : Reg} {s : State}
    (h : ¬ ((s.reg dest).toInt = -2147483648 ∧ (s.reg src).toInt = -1)) :
    execDiv dest src s = s.done32 (s.divideInto dest (s.reg dest).toInt (s.reg src).toInt) := if_neg h

/-! ### A shift as scaling -/

theorem shiftLeft_toNat (v : Word) (k : Nat) : (v <<< k).toNat = v.toNat * 2 ^ k % 4294967296 := by
  rw [BitVec.toNat_shiftLeft, Nat.shiftLeft_eq]

theorem ushiftRight_toNat (v : Word) (k : Nat) : (v >>> k).toNat = v.toNat / 2 ^ k := by
  rw [BitVec.toNat_ushiftRight, Nat.shiftRight_eq_div_pow]

/-- Copies of the sign bit make the quotient round down. -/
theorem sshiftRight_toInt (v : Word) (k : Nat) : (v.sshiftRight k).toInt = v.toInt / 2 ^ k := by
  rw [BitVec.toInt_sshiftRight, Int.shiftRight_eq_div_pow, Int.natCast_pow, Nat.cast_ofNat]

/-! ### The statements -/

/-- Settles O41: the accumulators stand in the frame of MUL, and the low 32 bits of the exact product are the product of
the words. -/
theorem multiplyDestroysOnlyTheAccumulators : Obligations.MultiplyDestroysOnlyTheAccumulators := by
  intro dest src s
  refine gives_of_exec rfl nofun rfl fun hk => ⟨rfl, ?_, hk⟩
  rw [State.goto_reg, State.destroyAccs_reg, State.setReg_reg_same]
  exact (mul_eq_ofInt _ _).symm

/-- Settles O42, by the dividend and the divisor that each instruction reads; DIV of -2^31 by -1 has a case of its
own. -/
theorem quotientsRoundTowardZero : Obligations.QuotientsRoundTowardZero := by
  intro dest src s
  refine ⟨fun h => ?div, fun hn hm => ?overflow, ?divh, ?divb, ?divu, ?divuh, ?divub⟩
  case div => exact dividesTo_of_exec rfl nofun rfl (execDiv_of_not_overflow h)
  case overflow => exact gives_of_exec rfl nofun (execDiv_of_overflow ⟨hn, hm⟩) fun hk => ⟨rfl, trivial, hk⟩
  case divu => exact dividesTo_of_exec rfl nofun rfl rfl
  case divh | divuh =>
    rw [setWidth_half]
    exact dividesTo_of_exec rfl nofun rfl rfl
  case divb | divub =>
    rw [setWidth_byte]
    exact dividesTo_of_exec rfl nofun rfl rfl

/-- Settles O43, by the dividend and the divisor that each instruction reads. -/
theorem remaindersHaveTheSignOfTheDividend : Obligations.RemaindersHaveTheSignOfTheDividend := by
  intro dest src s
  refine ⟨?rem, ?remh, ?remb, ?remu, ?remuh, ?remub⟩
  case rem | remu => exact leavesRemainder_of_exec rfl nofun rfl rfl
  case remh | remuh =>
    rw [setWidth_half]
    exact leavesRemainder_of_exec rfl nofun rfl rfl
  case remb | remub =>
    rw [setWidth_byte]
    exact leavesRemainder_of_exec rfl nofun rfl rfl

/-- Settles O44, by what each kind of shift does to the value, for any count. -/
theorem shiftsAreScaling : Obligations.ShiftsAreScaling := by
  intro dest src imm5 imm16 s
  refine ⟨?sll, ?sll3, ?slli, ?srl, ?srl3, ?srli, ?sra, ?sra3, ?srai⟩
  case sll | sll3 | slli => exact writesReg_of_exec rfl nofun rfl rfl (shiftLeft_toNat _ _)
  case srl | srl3 | srli => exact writesReg_of_exec rfl nofun rfl rfl (ushiftRight_toNat _ _)
  case sra | sra3 | srai => exact writesReg_of_exec rfl nofun rfl rfl (sshiftRight_toInt _ _)

end Sys2Proof.Machine

/-! ## Branches (44_branch.md R340-R360, and R361 and R362 outside a pair) -/

namespace Sys2Proof.Machine

/-! ### Targets -/

/-- A displacement counts words (R340). -/
theorem pcTarget_eq (s : State) {n : Nat} (d : BitVec n) :
    s.pcTarget d = (s.pc &&& 0xFFFFFFFC) + d.signExtend 32 * 4 :=
  congrArg (wordBase s.pc + ·) (BitVec.shiftLeft_eq_mul_twoPow (sext d) 2)

theorem wordBase_getLsbD (a : Word) {n : Nat} (hn : n < 32) :
    (wordBase a).getLsbD n = (a.getLsbD n && !decide (n < 2)) := by
  have hmask : ∀ n, n < 32 → (0xFFFFFFFC : Word).getLsbD n = !decide (n < 2) := by decide
  rw [wordBase, BitVec.getLsbD_and, hmask n hn]

theorem low_getLsbD (a : Word) {n : Nat} (hn : n < 32) :
    ((a.extractLsb' 0 2).setWidth 32).getLsbD n = (decide (n < 2) && a.getLsbD n) := by
  simp only [BitVec.getLsbD_setWidth, BitVec.getLsbD_extractLsb', hn, decide_true, Bool.true_and, Nat.zero_add]

/-- An address is the address of its word and its two low bits. -/
theorem wordBase_add_low (a : Word) : wordBase a + (a.extractLsb' 0 2).setWidth 32 = a := by
  have hdisjoint : wordBase a &&& (a.extractLsb' 0 2).setWidth 32 = 0#32 := by
    apply BitVec.eq_of_getLsbD_eq
    intro n hn
    rw [BitVec.getLsbD_and, wordBase_getLsbD a hn, low_getLsbD a hn, BitVec.getLsbD_zero]
    cases decide (n < 2) <;> simp
  rw [BitVec.add_eq_or_of_and_eq_zero _ _ hdisjoint]
  apply BitVec.eq_of_getLsbD_eq
  intro n hn
  rw [BitVec.getLsbD_or, wordBase_getLsbD a hn, low_getLsbD a hn]
  cases decide (n < 2) <;> simp

theorem wordBase_of_boundary {a : Word} (h : a.extractLsb' 0 2 = 0) : wordBase a = a := by
  simpa [h] using wordBase_add_low a

/-- The word after a lower half is at the next halfword. -/
theorem wordBase_add_four_of_lower {a : Word} (h : a.extractLsb' 0 2 = 2) : wordBase a + 4 = a + 2 := by
  have hlow : wordBase a + 2 = a := by simpa [h] using wordBase_add_low a
  calc wordBase a + 4 = wordBase a + 2 + 2 := by rw [BitVec.add_assoc]; rfl
    _ = a + 2 := by rw [hlow]

theorem npc16_of_not_parallel {s : State} (hp : s.parallelBit = false) : s.npc16 = s.pc + 2 := by
  simp [State.npc16, hp]

theorem npc16_of_lower {s : State} (hpc : s.pc.extractLsb' 0 2 = 2) : s.npc16 = s.pc + 2 := by
  simp [State.npc16, isWordBoundary, hpc]

/-! ### How a claim about a branch is proved -/

section Branching

variable {i : Instr} {s : State} {taken : Bool} {npc target dest : Word} {P : Prop}

/-- An instruction whose meaning is a choice of the PC. -/
theorem branches_of_exec (hx : exec i s = .next (s.goto (if taken then dest else npc))) (hdest : dest = target)
    (hP : taken = true ↔ P) : Branches i s npc target P := by
  refine ⟨_, hx, fun h => ?taken, fun h => ?not, (KeepsBut.refl {} s).goto _⟩
  case taken => exact (if_pos (hP.mpr h)).trans hdest
  case not => exact if_neg (h ∘ hP.mp)

/-- A branch whose target is the next instruction only advances. -/
theorem gives_of_branches_next (h : Branches i s npc npc P) :
    Gives i s fun t => t.pc = npc ∧ KeepsBut {} s t := by
  obtain ⟨t, hx, htaken, hnot, hk⟩ := h
  exact ⟨t, hx, (Classical.em P).elim htaken hnot, hk⟩

theorem State.linkTo_reg (s : State) (a : Word) : (s.linkTo a).reg linkReg = s.linkValue := by
  rw [State.linkTo, State.goto_reg, State.setReg_reg_same]

/-- An instruction whose meaning is to link and branch, or to go on. -/
theorem branchesAndLinks_of_exec (hx : exec i s = .next (if taken then s.linkTo dest else s.goto npc))
    (hdest : dest = target) (hP : taken = true ↔ P) : BranchesAndLinks i s npc target P := by
  refine ⟨_, hx, fun h => ?taken, fun h => ?not⟩
  case taken =>
    rw [if_pos (hP.mpr h)]
    exact ⟨hdest, s.linkTo_reg dest, (KeepsBut.refl _ s).linkTo (List.mem_singleton_self _) _⟩
  case not =>
    rw [if_neg (h ∘ hP.mp)]
    exact ⟨rfl, (KeepsBut.refl {} s).goto _⟩

end Branching

theorem not_c_iff {s : State} : (!s.c) = true ↔ s.c = false := by rw [Bool.not_eq_true']

theorem branches_sc (s : State) : Branches .sc s s.npc16 (wordBase s.pc + 4) (s.c = true) :=
  branches_of_exec rfl rfl Iff.rfl

theorem branches_snc (s : State) : Branches .snc s s.npc16 (wordBase s.pc + 4) (s.c = false) :=
  branches_of_exec rfl rfl not_c_iff

/-! ### The statements -/

/-- Settles O45, by the condition that each branch decides. -/
theorem branchesGoToTheirTargets : Obligations.BranchesGoToTheirTargets := by
  intro a b d8 d16 d24 s t8 t16 t24 tr
  have h8 : s.pcTarget d8 = t8 := pcTarget_eq s d8
  have h16 : s.pcTarget d16 = t16 := pcTarget_eq s d16
  have h24 : s.pcTarget d24 = t24 := pcTarget_eq s d24
  have hr : s.regTarget a = tr := rfl
  refine ⟨?bc8, ?bc24, ?bnc8, ?bnc24, ?bra8, ?bra24, ?beq, ?bne, ?beqz, ?bnez, ?bltz, ?bgez, ?blez, ?bgtz,
    ?jc, ?jnc, ?jmp⟩
  case bc8 => exact branches_of_exec rfl h8 Iff.rfl
  case bc24 => exact branches_of_exec rfl h24 Iff.rfl
  case jc => exact branches_of_exec rfl hr Iff.rfl
  case bnc8 => exact branches_of_exec rfl h8 not_c_iff
  case bnc24 => exact branches_of_exec rfl h24 not_c_iff
  case jnc => exact branches_of_exec rfl hr not_c_iff
  case bra8 => exact branches_of_exec rfl h8 (iff_true_intro rfl)
  case bra24 => exact branches_of_exec rfl h24 (iff_true_intro rfl)
  case jmp => exact branches_of_exec rfl hr (iff_true_intro rfl)
  case beq | beqz => exact branches_of_exec rfl h16 beq_iff_eq
  case bne | bnez => exact branches_of_exec rfl h16 bne_iff_ne
  case bltz | bgez | blez | bgtz => exact branches_of_exec rfl h16 decide_eq_true_iff

/-- Settles O46, by the condition that each call decides. -/
theorem callsLinkOnlyWhenTaken : Obligations.CallsLinkOnlyWhenTaken := by
  intro a d8 d24 s t8 t24
  have h8 : s.pcTarget d8 = t8 := pcTarget_eq s d8
  have h24 : s.pcTarget d24 = t24 := pcTarget_eq s d24
  refine ⟨?bcl8, ?bcl24, ?bncl8, ?bncl24, ?bl8, ?bl24, ?jl⟩
  case bcl8 => exact branchesAndLinks_of_exec rfl h8 Iff.rfl
  case bcl24 => exact branchesAndLinks_of_exec rfl h24 Iff.rfl
  case bncl8 => exact branchesAndLinks_of_exec rfl h8 not_c_iff
  case bncl24 => exact branchesAndLinks_of_exec rfl h24 not_c_iff
  case bl8 => exact branchesAndLinks_of_exec rfl h8 (iff_true_intro rfl)
  case bl24 => exact branchesAndLinks_of_exec rfl h24 (iff_true_intro rfl)
  case jl => exact branchesAndLinks_of_exec rfl rfl (iff_true_intro rfl)

/-- Settles O47: SC and SNC branch to the next word, which from a lower half is where they go on to in any case. -/
theorem nopAndSequentialSkips : Obligations.NopAndSequentialSkips := by
  intro s
  have hsc := branches_sc s
  have hsnc := branches_snc s
  refine ⟨?nop, fun hpc hp => ?upper, fun hpc => ?lower⟩
  case nop => exact ⟨_, rfl, rfl, (KeepsBut.refl {} s).goto _⟩
  case upper =>
    rw [npc16_of_not_parallel hp, wordBase_of_boundary hpc] at hsc hsnc
    exact ⟨hsc, hsnc⟩
  case lower =>
    rw [npc16_of_lower hpc, wordBase_add_four_of_lower hpc] at hsc hsnc
    exact ⟨gives_of_branches_next hsc, gives_of_branches_next hsnc⟩

end Sys2Proof.Machine

/-! ## The fields of PSW under entry, return, SETPSW and CLRPSW (10_state.md R32, 60_exceptions.md R510, R525)

SM, IE, PM, CE and C are the bits that `pswFieldMask` names, and the backup of bit `n` is bit `8 + n`; each of the four
operations is described once, at any such bit. -/

namespace Sys2Proof.Machine

/-! ### Bits under a mask -/

theorem and_mask_and {p m k j : Word} (h : m &&& k = j) : p &&& m &&& k = p &&& j := by
  rw [BitVec.and_assoc, h]

theorem getLsbD_and_mask_true {p m : Word} {n : Nat} (h : m.getLsbD n = true) :
    (p &&& m).getLsbD n = p.getLsbD n := by
  rw [BitVec.getLsbD_and, h, Bool.and_true]

theorem getLsbD_and_mask_false {p m : Word} {n : Nat} (h : m.getLsbD n = false) : (p &&& m).getLsbD n = false := by
  rw [BitVec.getLsbD_and, h, Bool.and_false]

/-- `returnPsw` with both its masks written as words. -/
theorem returnPsw_eq (p : Word) :
    returnPsw p = (p &&& (0x0000CD00 : Word)) ||| ((p >>> 8 : Word) &&& pswFieldMask) := rfl

section PswBits

variable {n : Nat} (hn : pswFieldMask.getLsbD n = true)

include hn

/-- The PSW field is in the low byte. -/
theorem pswField_lt : n < 8 := by
  have hbits : ∀ n, n < 32 → pswFieldMask.getLsbD n = true → n < 8 := by decide
  exact hbits n (BitVec.lt_of_getLsbD hn) hn

/-! ### Entry -/

/-- The entry saves each bit in its backup. -/
theorem entryPsw_backup (b : Bool) (p : Word) : (entryPsw b p).getLsbD (8 + n) = p.getLsbD n := by
  have hlt := pswField_lt hn
  have hmask : ∀ n, n < 8 → (0x80 : Word).getLsbD (8 + n) = false := by decide
  have hsm : (if b then 0 else p &&& 0x80).getLsbD (8 + n) = false := by
    cases b with
    | true => exact BitVec.getLsbD_zero
    | false => exact getLsbD_and_mask_false (hmask n hlt)
  have hrange : 8 + n < 32 := by omega
  have hsaved : ((p &&& pswFieldMask) <<< 8).getLsbD (8 + n) = p.getLsbD n := by
    rw [BitVec.getLsbD_shiftLeft, Nat.add_sub_cancel_left, getLsbD_and_mask_true hn]
    simp [hrange]
  rw [entryPsw, BitVec.getLsbD_or, hsaved, hsm, Bool.or_false]

/-- Of the field itself the entry leaves SM only. -/
theorem entryPsw_field (b : Bool) (p : Word) :
    (entryPsw b p).getLsbD n = (!b && (decide (n = 7) && p.getLsbD 7)) := by
  have hlt := pswField_lt hn
  have hmask : ∀ n, n < 8 → (0x80 : Word).getLsbD n = decide (n = 7) := by decide
  have hsm : (p &&& 0x80).getLsbD n = (decide (n = 7) && p.getLsbD 7) := by
    rw [BitVec.getLsbD_and, hmask n hlt, Bool.and_comm]
    by_cases h7 : n = 7
    · rw [h7]
    · rw [decide_eq_false h7, Bool.false_and, Bool.false_and]
  have hsaved : ((p &&& pswFieldMask) <<< 8).getLsbD n = false := by
    simp [hlt]
  rw [entryPsw, BitVec.getLsbD_or, hsaved, Bool.false_or]
  cases b with
  | true => exact BitVec.getLsbD_zero
  | false => exact hsm

/-! ### Return -/

/-- The return restores each bit from its backup. -/
theorem returnPsw_field (p : Word) : (returnPsw p).getLsbD n = p.getLsbD (8 + n) := by
  have hmask : ∀ n, n < 8 → (0x0000CD00 : Word).getLsbD n = false := by decide
  rw [returnPsw_eq, BitVec.getLsbD_or, getLsbD_and_mask_false (hmask n (pswField_lt hn)), getLsbD_and_mask_true hn,
    BitVec.getLsbD_ushiftRight, Bool.false_or]

/-! ### SETPSW and CLRPSW -/

theorem setPsw_field (p : Word) (imm8 : BitVec 8) :
    (setPsw p imm8).getLsbD n = (p.getLsbD n || imm8.getLsbD n) := by
  have hmask : ∀ n, n < 8 → (0xFFFFFF00 : Word).getLsbD n = false := by decide
  rw [setPsw, BitVec.getLsbD_or, getLsbD_and_mask_false (hmask n (pswField_lt hn)), getLsbD_and_mask_true hn,
    BitVec.getLsbD_or, zext_getLsbD (by decide), Bool.false_or]

theorem clearPsw_field (p : Word) (imm8 : BitVec 8) :
    (clearPsw p imm8).getLsbD n = (p.getLsbD n && !imm8.getLsbD n) := by
  have hlt := BitVec.lt_of_getLsbD hn
  rw [clearPsw, BitVec.getLsbD_and, BitVec.getLsbD_not, zext_getLsbD (by decide), decide_eq_true hlt, Bool.true_and]

end PswBits

/-- The return keeps the backup bits and clears what has no storage among them. -/
theorem returnPsw_backup (p : Word) : returnPsw p &&& 0x0000FF00 = p &&& 0x0000CD00 := by
  have hkept : p &&& 0x0000CD00 &&& 0x0000FF00 = p &&& 0x0000CD00 := and_mask_and (by decide)
  have hfield (q : Word) : q &&& pswFieldMask &&& 0x0000FF00 = q &&& 0 := and_mask_and (by decide)
  rw [returnPsw_eq, BitVec.and_or_distrib_right, hkept, hfield]
  simp

/-- SETPSW leaves the bits with no storage 0 (D11). -/
theorem setPsw_absent (p : Word) (imm8 : BitVec 8) : setPsw p imm8 &&& 0x32 = 0 := by
  have hkept : p &&& 0xFFFFFF00 &&& 0x32 = p &&& 0 := and_mask_and (by decide)
  have hfield : (p ||| zext imm8) &&& pswFieldMask &&& 0x32 = (p ||| zext imm8) &&& 0 := and_mask_and (by decide)
  rw [setPsw, BitVec.and_or_distrib_right, hkept, hfield]
  simp

/-- An immediate of 8 bits is in the low byte. -/
theorem zext_and_not_byte (imm8 : BitVec 8) : zext imm8 &&& ~~~(0xFF : Word) = 0 := by
  have hmask : ∀ n, n < 32 → (~~~(0xFF : Word)).getLsbD n = decide (8 ≤ n) := by decide
  apply BitVec.eq_of_getLsbD_eq
  intro n hn
  rw [BitVec.getLsbD_and, zext_getLsbD (by decide), hmask n hn]
  by_cases h : 8 ≤ n
  · rw [BitVec.getLsbD_of_ge _ _ h]
    simp
  · simp [h]

/-- The bits that SETPSW writes are in the low byte. -/
theorem zext_or_and_not_byte (imm8 : BitVec 8) : (zext imm8 ||| 0x32) &&& ~~~(0xFF : Word) = 0 := by
  rw [BitVec.and_or_distrib_right, zext_and_not_byte]
  decide

/-! ### The accessors after an entry and after a return -/

section Accessors

variable (s : State) (e : Event) (p : Word)

@[simp] theorem State.enter_bc : (s.enter e p).bc = s.c := entryPsw_backup (n := 0) rfl _ _
@[simp] theorem State.enter_bce : (s.enter e p).bce = s.ce := entryPsw_backup (n := 2) rfl _ _
@[simp] theorem State.enter_bpm : (s.enter e p).bpm = s.pm := entryPsw_backup (n := 3) rfl _ _
@[simp] theorem State.enter_bie : (s.enter e p).bie = s.ie := entryPsw_backup (n := 6) rfl _ _
@[simp] theorem State.enter_bsm : (s.enter e p).bsm = s.sm := entryPsw_backup (n := 7) rfl _ _

@[simp] theorem State.enter_c : (s.enter e p).c = false := (entryPsw_field (n := 0) rfl _ _).trans (Bool.and_false _)
@[simp] theorem State.enter_ce : (s.enter e p).ce = false := (entryPsw_field (n := 2) rfl _ _).trans (Bool.and_false _)
@[simp] theorem State.enter_pm : (s.enter e p).pm = false := (entryPsw_field (n := 3) rfl _ _).trans (Bool.and_false _)
@[simp] theorem State.enter_ie : (s.enter e p).ie = false := (entryPsw_field (n := 6) rfl _ _).trans (Bool.and_false _)
@[simp] theorem State.enter_sm : (s.enter e p).sm = (!entryClearsSm e && s.sm) := entryPsw_field (n := 7) rfl _ _

@[simp] theorem State.eitReturn_c : s.eitReturn.c = s.bc := returnPsw_field (n := 0) rfl _
@[simp] theorem State.eitReturn_ce : s.eitReturn.ce = s.bce := returnPsw_field (n := 2) rfl _
@[simp] theorem State.eitReturn_pm : s.eitReturn.pm = s.bpm := returnPsw_field (n := 3) rfl _
@[simp] theorem State.eitReturn_ie : s.eitReturn.ie = s.bie := returnPsw_field (n := 6) rfl _
@[simp] theorem State.eitReturn_sm : s.eitReturn.sm = s.bsm := returnPsw_field (n := 7) rfl _

end Accessors

end Sys2Proof.Machine

/-! ## Bit operations and EIT-related instructions (45_bit_eit.md R380-R386) -/

namespace Sys2Proof.Machine

/-! ### Bit positions (R128) -/

theorem bitMask_getLsbD (b : Fin 8) (n : Nat) : (bitMask b).getLsbD n = decide (7 - b.val = n) := by
  have hlt : 7 - b.val < 8 := by omega
  have hpow : bitMask b = BitVec.twoPow 8 (7 - b.val) := rfl
  rw [hpow, BitVec.getLsbD_twoPow, decide_eq_true hlt, Bool.true_and]

theorem or_bitMask_getLsbD (v : Byte) (b : Fin 8) (n : Nat) :
    (v ||| bitMask b).getLsbD n = if n = 7 - b.val then true else v.getLsbD n := by
  rw [BitVec.getLsbD_or, bitMask_getLsbD]
  split
  · next h => rw [decide_eq_true h.symm, Bool.or_true]
  · next h => rw [decide_eq_false (Ne.symm h), Bool.or_false]

theorem and_not_bitMask_getLsbD (v : Byte) (b : Fin 8) (n : Nat) :
    (v &&& ~~~bitMask b).getLsbD n = if n = 7 - b.val then false else v.getLsbD n := by
  rw [BitVec.getLsbD_and, BitVec.getLsbD_not, bitMask_getLsbD]
  split
  · next h => rw [decide_eq_true h.symm, Bool.not_true, Bool.and_false, Bool.and_false]
  · next h =>
    rw [decide_eq_false (Ne.symm h), Bool.not_false, Bool.and_true, Bool.and_eq_left_iff_imp]
    exact fun hv => decide_eq_true (BitVec.lt_of_getLsbD hv)

theorem State.writeByte_readByte_same (s : State) (a : Word) (v : Byte) : (s.writeByte a v).readByte a = v := by
  rw [State.writeByte_readByte, if_pos rfl]

/-- An instruction whose frame is one byte and whose meaning writes a byte with these bits. -/
theorem gives_byte {i : Instr} {s : State} {ea npc : Word} {v : Byte} {bits : Nat → Bool}
    (hr : raises i s = none) (htrap : ∀ k, i ≠ .trap k) (hw : writes i s = { bytes := [ea] })
    (hx : exec i s = .next ((s.writeByte ea v).goto npc)) (hv : ∀ n, v.getLsbD n = bits n) :
    Gives i s fun t =>
      t.pc = npc ∧ (∀ n, (t.readByte ea).getLsbD n = bits n) ∧ KeepsBut { bytes := [ea] } s t := by
  refine gives_of_exec hr htrap hx fun hk => ⟨rfl, ?_, hw ▸ hk⟩
  rwa [State.goto_readByte, State.writeByte_readByte_same]

/-- Settles O48, by the bits of the byte with the mask of `bitpos`. -/
theorem bitOperations : Obligations.BitOperations := by
  intro b src disp16 s ea
  refine ⟨?bset, ?bclr, ?btst⟩
  case bset => exact gives_byte rfl nofun rfl rfl (or_bitMask_getLsbD _ b)
  case bclr => exact gives_byte rfl nofun rfl rfl (and_not_bitMask_getLsbD _ b)
  case btst => exact computesC_of_exec rfl nofun rfl rfl Iff.rfl

/-! ### EIT-related instructions -/

/-- An instruction that checks the mode and nothing else, in supervisor mode. -/
theorem gives_of_supervisor {i : Instr} {s t : State} {P : State → Prop} (hp : s.pm = false)
    (hr : raises i s = if s.pm then some .pie else none) (htrap : ∀ k, i ≠ .trap k)
    (hx : exec i s = s.ifSupervisor (.next t)) (h : KeepsBut (writes i s) s t → P t) : Gives i s P :=
  gives_of_exec (hr.trans (if_neg (by simp [hp]))) htrap (hx.trans (ifSupervisor_pos hp _)) h

/-- Settles O14, by what `returnPsw` makes of each field. -/
theorem rteRestores : Obligations.RteRestores := by
  intro s hp
  refine gives_of_supervisor hp rfl nofun rfl fun hk => ?_
  exact ⟨rfl, s.eitReturn_sm, s.eitReturn_ie, s.eitReturn_pm, s.eitReturn_ce, s.eitReturn_c, returnPsw_backup _, hk⟩

/-- Settles O15, by what the entry makes of each field; TRAP keeps SM. -/
theorem trapEnters : Obligations.TrapEnters := by
  intro n s
  have hsm : (s.enter (.trap n) s.npc16).sm = s.sm := s.enter_sm _ _
  exact ⟨_, rfl, rfl, rfl, s.enter_bsm _ _, s.enter_bie _ _, s.enter_bpm _ _, s.enter_bce _ _, s.enter_bc _ _, hsm,
    s.enter_ie _ _, s.enter_pm _ _, s.enter_ce _ _, s.enter_c _ _, enter_frame s _ _⟩

/-- A frame of PSW bits in the low byte, with or without the mark of R571, in the words of O49. -/
theorem KeepsBut.lowByte {w : Word} {mark : Bool} {s t : State} (h : KeepsBut { psw := w, mark := mark } s t)
    (hw : w &&& ~~~(0xFF : Word) = 0) : KeepsBut { psw := 0xFF, mark := true } s t :=
  h.mono (List.Subset.refl _) (List.Subset.refl _) (List.Subset.refl _) hw id id id id fun _ => rfl

/-- Settles O49, by what `setPsw` and `clearPsw` make of each field; PM is 0 before. -/
theorem pswImmediates : Obligations.PswImmediates := by
  intro imm8 s hp
  refine ⟨gives_of_supervisor hp rfl nofun rfl fun hk => ?setpsw,
    gives_of_supervisor hp rfl nofun rfl fun hk => ?clrpsw⟩
  case setpsw =>
    have hpm : (setPsw s.psw imm8).getLsbD 3 = imm8.getLsbD 3 :=
      (setPsw_field rfl _ _).trans (congrArg (· || imm8.getLsbD 3) hp)
    exact ⟨rfl, setPsw_field rfl _ _, setPsw_field rfl _ _, hpm, setPsw_field rfl _ _, setPsw_field rfl _ _,
      setPsw_absent _ _, marksPm_of_markPm rfl, hk.lowByte (zext_or_and_not_byte imm8)⟩
  case clrpsw =>
    have hpm : (clearPsw s.psw imm8).getLsbD 3 = false :=
      (clearPsw_field rfl _ _).trans (congrArg (· && !imm8.getLsbD 3) hp)
    exact ⟨rfl, clearPsw_field rfl _ _, clearPsw_field rfl _ _, hpm, clearPsw_field rfl _ _, clearPsw_field rfl _ _,
      marksPm_of_markPm rfl, hk.lowByte (zext_and_not_byte imm8)⟩

end Sys2Proof.Machine

/-! ## DSP (46_dsp.md R400-R421) -/

namespace Sys2Proof.Machine

/-! ### The instructions that write one accumulator -/

/-- An instruction whose frame is one accumulator and whose meaning writes it. -/
theorem writesAcc_of_exec {i : Instr} {s : State} {a : Acc} {v : Acc56} {P : State → Prop}
    (hr : raises i s = none) (htrap : ∀ k, i ≠ .trap k) (hw : writes i s = { accs := [a] })
    (hx : exec i s = s.done16 (s.setAcc a v)) (hP : ∀ t : State, t.acc a = v → P t) : WritesAcc i s a P := by
  refine gives_of_exec hr htrap hx fun hk => ⟨rfl, hP _ ?_, hw ▸ hk⟩
  rw [State.goto_acc, State.setAcc_acc, if_pos rfl]

/-- The sign extension to 64 bits keeps the value. -/
theorem State.accInt_eq (s : State) (a : Acc) : s.accInt a = (s.acc a).toInt :=
  BitVec.toInt_signExtend_of_le (by decide)

/-! ### Exact results -/

theorem acc56_toInt_ofInt {n : Int} (h : n.natAbs < 2 ^ 55) : (BitVec.ofInt 56 n : Acc56).toInt = n :=
  BitVec.toInt_ofInt_eq_self (by decide) (by omega) (by omega)

/-- An instruction that writes one accumulator with an exact result which 56 bits hold. -/
theorem writesAcc_of_exact {i : Instr} {s : State} {a : Acc} {n : Int} {P : Int → Prop}
    (hr : raises i s = none) (htrap : ∀ k, i ≠ .trap k) (hw : writes i s = { accs := [a] })
    (hx : exec i s = s.done16 (s.setAccInt a n)) (hn : n.natAbs < 2 ^ 55) (hP : P n) :
    WritesAcc i s a fun t => P (t.accInt a) := by
  refine writesAcc_of_exec hr htrap hw hx fun t ht => ?_
  rwa [t.accInt_eq, ht, acc56_toInt_ofInt hn]

theorem toInt_natAbs_le {n : Nat} (v : BitVec (n + 1)) : v.toInt.natAbs ≤ 2 ^ n := by
  have hlow : -2 ^ n ≤ v.toInt := v.le_toInt
  have hhigh : v.toInt < 2 ^ n := v.toInt_lt
  have hcast : ((2 ^ n : Nat) : Int) = 2 ^ n := Nat.cast_pow 2 n
  omega

theorem natAbs_mul_le {p q : Int} {m n : Nat} (hp : p.natAbs ≤ m) (hq : q.natAbs ≤ n) : (p * q).natAbs ≤ m * n :=
  (Int.natAbs_mul p q).trans_le (Nat.mul_le_mul hp hq)

/-- The product of two signed halfwords, in the place the halfword forms give it. -/
theorem halfProduct_natAbs_lt (v w : BitVec 16) : (v.toInt * w.toInt * 65536).natAbs < 2 ^ 55 :=
  (natAbs_mul_le (natAbs_mul_le (toInt_natAbs_le v) (toInt_natAbs_le w)) le_rfl).trans_lt (by decide)

theorem wordHalfProduct_natAbs_lt (v : Word) (w : BitVec 16) : (v.toInt * w.toInt).natAbs < 2 ^ 55 :=
  (natAbs_mul_le (toInt_natAbs_le v) (toInt_natAbs_le w)).trans_lt (by decide)

theorem wordUnsignedHalfProduct_natAbs_lt (v : Word) (w : BitVec 16) : (v.toInt * (w.toNat : Int)).natAbs < 2 ^ 55 :=
  (natAbs_mul_le (toInt_natAbs_le v) w.isLt.le).trans_lt (by decide)

/-- Settles O50: each product is small enough for the 56 bits. -/
theorem dspProducts : Obligations.DspProducts := by
  intro a b acc s hi lo ulo w
  refine ⟨?mulhi, ?mullo, ?mulwhi, ?mulwlo, ?mulwu1⟩
  case mulhi | mullo =>
    exact writesAcc_of_exact (P := (· = _)) rfl nofun rfl rfl (halfProduct_natAbs_lt _ _) rfl
  case mulwhi | mulwlo =>
    exact writesAcc_of_exact (P := (· = _)) rfl nofun rfl rfl (wordHalfProduct_natAbs_lt _ _) rfl
  case mulwu1 =>
    exact writesAcc_of_exact (P := (· = _)) rfl nofun rfl rfl (wordUnsignedHalfProduct_natAbs_lt _ _) rfl

/-! ### Sums modulo 2^56 -/

theorem State.accumulate_eq (s : State) (a : Acc) (v : Int) :
    s.accumulate a v = s.setAcc a (s.acc a + BitVec.ofInt 56 v) := by
  rw [State.accumulate, State.setAccInt, s.accInt_eq, BitVec.ofInt_add, BitVec.ofInt_toInt]

/-- An instruction that adds to one accumulator. -/
theorem writesAcc_of_accumulate {i : Instr} {s : State} {a : Acc} {v : Int} {r : Acc56}
    (hr : raises i s = none) (htrap : ∀ k, i ≠ .trap k) (hw : writes i s = { accs := [a] })
    (hx : exec i s = s.done16 (s.accumulate a v)) (hsum : s.acc a + BitVec.ofInt 56 v = r) :
    WritesAcc i s a fun t => t.acc a = r :=
  writesAcc_of_exec hr htrap hw (hx.trans (congrArg s.done16 (s.accumulate_eq a v))) fun _ ht => ht.trans hsum

theorem add_ofInt_neg (x : Acc56) (v : Int) : x + BitVec.ofInt 56 (-v) = x - BitVec.ofInt 56 v := by
  rw [BitVec.ofInt_neg, BitVec.sub_eq_add_neg]

/-- SADD's floor of the division by 2^16 is the arithmetic shift. -/
theorem ofInt_fdiv_eq_sshiftRight (s : State) (a : Acc) :
    BitVec.ofInt 56 (Int.fdiv (s.accInt a) 65536) = (s.acc a).sshiftRight 16 := by
  rw [s.accInt_eq, Int.fdiv_eq_ediv_of_nonneg _ (by decide), BitVec.sshiftRight, Int.shiftRight_eq_div_pow]
  rfl

/-- Settles O51, by the value that each instruction adds. -/
theorem dspAccumulates : Obligations.DspAccumulates := by
  intro a b acc s hi lo ulo w
  refine ⟨?machi, ?maclo, ?maclh1, ?macwhi, ?macwlo, ?macwu1, ?msblo, ?sadd⟩
  case machi | maclo => exact writesAcc_of_accumulate rfl nofun rfl rfl rfl
  case maclh1 | macwu1 => exact writesAcc_of_accumulate (a := .a1) rfl nofun rfl rfl rfl
  case macwhi | macwlo => exact writesAcc_of_accumulate (a := .a0) rfl nofun rfl rfl rfl
  case msblo => exact writesAcc_of_accumulate (a := .a0) rfl nofun rfl rfl (add_ofInt_neg _ _)
  case sadd =>
    exact writesAcc_of_accumulate (a := .a0) rfl nofun rfl rfl
      (congrArg (s.acc0 + ·) (ofInt_fdiv_eq_sshiftRight s .a1))

/-! ### Rounding -/

section Rounding

variable {half limit unit tmp : Int}

theorem roundTo_above (h : limit < tmp + half) : roundTo half limit unit tmp = limit := if_pos h

theorem roundTo_below (hl : 0 ≤ limit) (h : tmp + half < -140737488355328) :
    roundTo half limit unit tmp = -140737488355328 := by
  rw [roundTo, if_neg (by omega), if_pos h]

theorem roundTo_between (hu : 0 < unit) (hlow : -140737488355328 ≤ tmp + half) (hhigh : tmp + half ≤ limit) :
    roundTo half limit unit tmp = (tmp + half) / unit * unit := by
  rw [roundTo, if_neg (Int.not_lt.mpr hhigh), if_neg (Int.not_lt.mpr hlow), Int.fdiv_eq_ediv_of_nonneg _ hu.le]

/-- The multiple of `m` just at or below `n`. -/
theorem ediv_mul_spec (n : Int) {m : Int} (hm : 0 < m) : n / m * m % m = 0 ∧ n / m * m ≤ n ∧ n < n / m * m + m := by
  have hlt := Int.lt_ediv_add_one_mul_self n hm
  rw [Int.add_mul, Int.one_mul] at hlt
  exact ⟨Int.mul_emod_left _ _, Int.ediv_mul_le _ hm.ne', hlt⟩

/-- What R417 and R418 ask of the rounded value `r`. -/
def RoundsTo (half limit unit tmp r : Int) : Prop :=
  (limit < tmp + half → r = limit) ∧
  (tmp + half < -140737488355328 → r = -140737488355328) ∧
  (-140737488355328 ≤ tmp + half → tmp + half ≤ limit → r % unit = 0 ∧ r ≤ tmp + half ∧ tmp + half < r + unit)

theorem roundTo_spec (hl : 0 ≤ limit) (hu : 0 < unit) : RoundsTo half limit unit tmp (roundTo half limit unit tmp) := by
  refine ⟨roundTo_above, roundTo_below hl, fun hlow hhigh => ?_⟩
  rw [roundTo_between hu hlow hhigh]
  exact ediv_mul_spec _ hu

/-- Whatever the value that is rounded, 56 bits hold the result. -/
theorem RoundsTo.natAbs_lt {r : Int} (h : RoundsTo half limit unit tmp r) (hl : 0 ≤ limit) (hlimit : limit ≤ 2 ^ 47)
    (hunit : unit ≤ 2 ^ 32) : r.natAbs < 2 ^ 55 := by
  obtain ⟨habove, hbelow, hbetween⟩ := h
  rcases lt_or_ge limit (tmp + half) with hhigh | hhigh
  · have := habove hhigh
    omega
  rcases lt_or_ge (tmp + half) (-140737488355328) with hlow | hlow
  · have := hbelow hlow
    omega
  · obtain ⟨-, hle, hlt⟩ := hbetween hlow hhigh
    omega

/-- An instruction that writes one accumulator with a rounded value. -/
theorem writesAcc_of_roundTo {i : Instr} {s : State} {a : Acc}
    (hr : raises i s = none) (htrap : ∀ k, i ≠ .trap k) (hw : writes i s = { accs := [a] })
    (hx : exec i s = s.done16 (s.setAccInt a (roundTo half limit unit tmp)))
    (hl : 0 ≤ limit) (hlimit : limit ≤ 2 ^ 47) (hu : 0 < unit) (hunit : unit ≤ 2 ^ 32) :
    WritesAcc i s a fun t => RoundsTo half limit unit tmp (t.accInt a) :=
  have hround := roundTo_spec hl hu
  writesAcc_of_exact hr htrap hw hx (hround.natAbs_lt hl hlimit hunit) hround

end Rounding

/-- Settles O52, by the half, the limit and the unit of each instruction; the value rounded is any integer. -/
theorem roundingSaturates : Obligations.RoundingSaturates := by
  intro ad as k s x
  refine ⟨?rac, ?rach⟩
  case rac | rach =>
    exact writesAcc_of_roundTo rfl nofun rfl rfl (by decide) (by decide) (by decide) (by decide)

/-! ### Transfers -/

/-- The bits of the 64-bit view from the sign on are the sign. -/
theorem State.a64_slice_getLsbD (s : State) (a : Acc) {k n : Nat} (hk : k ≤ 32) (hn : n < 32) :
    ((s.a64 a).extractLsb' k 32).getLsbD n = (s.acc a).getLsbD (min (k + n) 55) := by
  rw [BitVec.getLsbD_extractLsb', decide_eq_true hn, Bool.true_and, State.a64, BitVec.getLsbD_signExtend,
    decide_eq_true (by omega), Bool.true_and]
  split
  · next h => rw [Nat.min_eq_left (by omega)]
  · next h => rw [Nat.min_eq_right (by omega), BitVec.msb_eq_getLsbD_last]

/-- The upper 24 of the 56 bits are replaced. -/
theorem append_low_getLsbD (v : Word) (x : Acc56) {n : Nat} (hn : n < 56) :
    (v.extractLsb' 0 24 ++ x.extractLsb' 0 32 : Acc56).getLsbD n =
      if n < 32 then x.getLsbD n else v.getLsbD (n - 32) := by
  rw [BitVec.getLsbD_append, BitVec.getLsbD_extractLsb', BitVec.getLsbD_extractLsb', Nat.zero_add, Nat.zero_add]
  split
  · next h => rw [decide_eq_true h, Bool.true_and]
  · next h => rw [decide_eq_true (by omega), Bool.true_and]

/-- The lower 32 of the 56 bits are replaced. -/
theorem high_append_getLsbD (v : Word) (x : Acc56) {n : Nat} (hn : n < 56) :
    (x.extractLsb' 32 24 ++ v : Acc56).getLsbD n = if n < 32 then v.getLsbD n else x.getLsbD n := by
  rw [BitVec.getLsbD_append, BitVec.getLsbD_extractLsb']
  split
  · rfl
  · next h => rw [decide_eq_true (by omega), Bool.true_and, Nat.add_sub_cancel' (by omega)]

/-- Settles O53, by the slice of the accumulator that each transfer reads or replaces. -/
theorem accumulatorTransfers : Obligations.AccumulatorTransfers := by
  intro r acc s
  refine ⟨?mvfachi, ?mvfaclo, ?mvfacmi, ?mvtachi, ?mvtaclo⟩
  case mvfachi => exact writesReg_of_exec rfl nofun rfl rfl fun n hn => s.a64_slice_getLsbD acc (by decide) hn
  case mvfaclo =>
    refine writesReg_of_exec rfl nofun rfl rfl fun n hn => (s.a64_slice_getLsbD acc (by decide) hn).trans ?_
    rw [Nat.zero_add, Nat.min_eq_left (by omega)]
  case mvfacmi =>
    refine writesReg_of_exec rfl nofun rfl rfl fun n hn => (s.a64_slice_getLsbD acc (by decide) hn).trans ?_
    rw [Nat.min_eq_left (by omega)]
  case mvtachi =>
    exact writesAcc_of_exec rfl nofun rfl rfl fun t ht n hn => by rw [ht, append_low_getLsbD _ _ hn]
  case mvtaclo =>
    exact writesAcc_of_exec rfl nofun rfl rfl fun t ht n hn => by rw [ht, high_append_getLsbD _ _ hn]

/-! ### Saturation -/

/-- Between two bounds that a word holds, `saturate` is the clamp. -/
theorem saturate_toInt {lo hi : Int} (v : Word) (hlo : -2147483648 ≤ lo) (hle : lo ≤ hi) (hhi : hi < 2147483648) :
    (saturate lo hi v).toInt = max lo (min hi v.toInt) := by
  have toInt_bound {n : Int} (h : lo ≤ n) (h' : n ≤ hi) : (BitVec.ofInt 32 n).toInt = n :=
    BitVec.toInt_ofInt_eq_self (by decide) (by omega) (by omega)
  unfold saturate
  split
  · next h => rw [toInt_bound hle le_rfl, min_eq_left h, max_eq_right hle]
  · split
    · next h => rw [toInt_bound le_rfl hle, min_eq_right (h.trans hle), max_eq_left h]
    · rw [min_eq_right (by omega), max_eq_right (by omega)]

/-- Settles O54, by the bounds of each instruction. -/
theorem saturationClamps : Obligations.SaturationClamps := by
  intro dest src s
  refine ⟨?satb, ?sath⟩
  case satb | sath => exact writesReg_of_exec rfl nofun rfl rfl (saturate_toInt _ (by decide) (by decide) (by decide))

end Sys2Proof.Machine

/-! ## Precise exceptions (60_exceptions.md R502, R511, R513) -/

namespace Sys2Proof.Machine

/-- The exceptions that an instruction can raise (R501); TRAP executes, and RI, EI and CPI come at a step boundary. -/
theorem event_of_raises {i : Instr} {s : State} {e : Event} (h : raises i s = some e) :
    e = .pie ∨ e = .ae ∨ e = .cde := by
  cases i with
  | ld | ldInc | lock | ldh | lduh | st | unlock | sth | sthInc | stPreInc | stPreDec | ldDisp | ldhDisp | lduhDisp
  | stDisp | sthDisp => exact .inr (.inl (check_failed h).2.symm)
  | mvfcp | mvtcp | opecp => exact .inr (.inr (check_failed h).2.symm)
  | rte | mvtc | setpsw | clrpsw =>
    cases hp : s.pm <;> simp [raises, hp] at h
    exact .inl h.symm
  | _ => cases h

theorem ne_ri_of_raises {i : Instr} {s : State} {e : Event} (h : raises i s = some e) : e ≠ .ri := by
  obtain rfl | rfl | rfl := event_of_raises h <;> exact Event.noConfusion

/-- An exception on the upper side of a pair stops the pair. -/
theorem execPair_of_raises {o sd : Instr} {s : State} {e : Event} (hp : pairAllowed o sd = true)
    (h : raises o s = some e) : execPair o sd s = s.raise e := by
  simp [execPair, hp, h]

/-- Settles O17, from what `raises` says of an instruction alone and of a pair. -/
theorem exceptionsArePrecise : Obligations.ExceptionsArePrecise := fun _ _ _ h =>
  ⟨event_of_raises h, exec_of_raises h, fun _ hp => execPair_of_raises hp h⟩

/-- Settles O16: in user mode `raises` answers PIE for each of the four, whatever the operands. -/
theorem privilegedInstructionsRaisePieInUserMode : Obligations.PrivilegedInstructionsRaisePieInUserMode :=
  fun _ _ _ _ hp =>
    ⟨exec_of_raises (if_pos hp), exec_of_raises (if_pos hp), exec_of_raises (if_pos hp), exec_of_raises (if_pos hp)⟩

end Sys2Proof.Machine

/-! ## User mode is confined (60_exceptions.md R531, R532)

What user mode cannot write is written by MVTC, RTE, SETPSW and CLRPSW only, and these raise PIE there. So a step leaves
user mode through a reset or through an entry, and an entry saves the old mode in BPM. -/

namespace Sys2Proof.Machine

/-! ### What an instruction of user mode may write -/

section User

variable {i : Instr} {s : State} (hp : s.pm = true) (hr : raises i s = none)

include hp hr

/-- Of PSW an instruction of user mode writes C or nothing. -/
theorem pswWrites_of_user : pswWrites i = 0 ∨ pswWrites i = 1 := by
  cases i with
  | rte | mvtc | setpsw | clrpsw => simp [raises, hp] at hr
  | addv | addx | subv | subx | cmp | cmpeq | cmpu | cmpz | pcmpbz | btst | addv3 | cmpi | cmpui => exact .inr rfl
  | _ => exact .inl rfl

theorem writes_control_of_user : (writes i s).evb = false ∧ (writes i s).bpc = false := by
  cases i with
  | mvtc => simp [raises, hp] at hr
  | _ => exact ⟨rfl, rfl⟩

/-- A register is written under a number that names it, so not the stack pointer that R15 does not name (R22). -/
theorem regWrites_of_user : ∀ k ∈ regWrites i s, ∃ r, s.cellOf r = k := by
  cases i with
  | mvtc => simp [raises, hp] at hr
  | bcl8 | bcl24 | bncl8 | bncl24 => cases hc : s.c <;> simp [regWrites, hc]
  | _ => simp [regWrites]

end User

theorem State.cellOf_ne_spi {s : State} (h : s.sm = true) (r : Reg) : s.cellOf r ≠ .spi := by
  by_cases hr : r = 15
  · rw [hr, State.cellOf_sp, if_pos h]
    exact Cell.noConfusion
  · rw [s.cellOf_gpr (reg_lt_of_ne_sp hr)]
    exact Cell.noConfusion

theorem State.cellOf_ne_spu {s : State} (h : s.sm = false) (r : Reg) : s.cellOf r ≠ .spu := by
  by_cases hr : r = 15
  · rw [hr, State.cellOf_sp, if_neg (by simp [h])]
    exact Cell.noConfusion
  · rw [s.cellOf_gpr (reg_lt_of_ne_sp hr)]
    exact Cell.noConfusion

/-- A frame keeps every part of PSW that it does not list. -/
theorem KeepsBut.psw_part {w : Writes} {s t : State} (h : KeepsBut w s t) {m : Word} (hm : ~~~w.psw &&& m = m) :
    t.psw &&& m = s.psw &&& m := by
  rw [← and_mask_and (p := t.psw) hm, h.psw, and_mask_and hm]

/-- A bit under the mask of a part of PSW that is kept. -/
theorem getLsbD_of_and_eq {p q m : Word} {n : Nat} (h : p &&& m = q &&& m) (hm : m.getLsbD n = true) :
    p.getLsbD n = q.getLsbD n := by
  rw [← getLsbD_and_mask_true hm, h, getLsbD_and_mask_true hm]

/-- Settles O20, from the frame of the instruction and what `writes` can list in user mode. -/
theorem userModeIsConfined : Obligations.UserModeIsConfined := by
  intro i s t hp hr htrap hx
  have hk := exec_frame hr htrap t hx
  obtain ⟨hevb, hbpc⟩ := writes_control_of_user hp hr
  have hregs := regWrites_of_user hp hr
  have hpsw : ~~~pswWrites i &&& 0xFFFFFFFE = 0xFFFFFFFE := by
    obtain e | e := pswWrites_of_user hp hr <;> rw [e] <;> decide
  obtain ⟨he, hw⟩ := hk.evb hevb
  refine ⟨hk.psw_part hpsw, he, hw, hk.bpc hbpc,
    fun hs => hk.cell .spi fun hm => ?spi, fun hs => hk.cell .spu fun hm => ?spu⟩
  case spi =>
    obtain ⟨r, e⟩ := hregs _ hm
    exact State.cellOf_ne_spi hs r e
  case spu =>
    obtain ⟨r, e⟩ := hregs _ hm
    exact State.cellOf_ne_spu hs r e

/-! ### What a step can do, as a rule for a claim about the state after it

`StepsTo` does not say which events are entered and that the instruction executed raises nothing; this rule does. -/

section StepRule

variable {P : State → Prop} {s : State} (henter : ∀ e, e ≠ .ri → P (s.enter e s.pc))
  (hexec : ∀ i u t, raises i s = none → exec i s = .next u → SameFixed u t → P t)

include henter

theorem ensures_raise {e : Event} (he : e ≠ .ri) : Ensures P (s.raise e) := ensures_next (henter e he)

include hexec

/-- An instruction raises, or it is executed. -/
theorem ensures_exec (i : Instr) : Ensures P (exec i s) := by
  cases hr : raises i s with
  | some e =>
    rw [exec_of_raises hr]
    exact ensures_raise henter (ne_ri_of_raises hr)
  | none => exact fun t ht => hexec i t t hr ht (.refl t)

/-- A pair differs from its upper instruction alone in nothing but registers, accumulators and C. -/
theorem ensures_execPair (o sd : Instr) : Ensures P (execPair o sd s) := by
  obtain ⟨-, e⟩ | ⟨-, ⟨ev, hr, e⟩ | ⟨hr, ⟨e, -⟩ | ⟨-, sO, hO, ⟨e, -⟩ | ⟨sS, -, e⟩⟩⟩⟩ :=
    execPair_cases (rfl : execPair o sd s = _)
  · exact e ▸ ensures_refused _
  · exact e ▸ ensures_raise henter (ne_ri_of_raises hr)
  · exact e ▸ ensures_exec henter hexec o
  · exact e ▸ ensures_exec henter hexec sd
  · exact e ▸ ensures_next (hexec o sO _ hr hO (merge_fixed ..))

theorem ensures_execute : Ensures P s.execute := by
  obtain ⟨-, e⟩ | ⟨-, e | ⟨i, -, -, e⟩ | ⟨i, -, -, e⟩ | ⟨o, sd, -, -, -, -, -, e⟩ | ⟨-, -, e⟩ | ⟨-, -, -, e⟩⟩ :=
    execute_cases (rfl : s.execute = _)
  · exact e ▸ nofun
  · exact e ▸ ensures_raise henter Event.noConfusion
  · exact e ▸ ensures_exec henter hexec i
  · exact e ▸ ensures_exec henter hexec i
  · exact e ▸ ensures_execPair henter hexec o sd
  · exact e ▸ ensures_refused _
  · exact e ▸ ensures_refused _

/-- A step takes a reset, enters an event from PC, or executes an instruction that raises nothing. -/
theorem ensures_step (hreset : s.resetReq = true → P s.takeReset) : Ensures P (step s) := by
  obtain ⟨t, hb, e⟩ | ⟨-, e⟩ := step_cases (rfl : step s = _)
  · rw [e]
    obtain ⟨hr, rfl⟩ | ⟨-, -, rfl⟩ | ⟨-, -, rfl⟩ := boundary_cases hb
    · exact ensures_next (hreset hr)
    · exact ensures_next (henter .ei Event.noConfusion)
    · exact ensures_next (henter .cpi Event.noConfusion)
  · exact e ▸ ensures_execute henter hexec

end StepRule

/-! ### How user mode is left -/

/-- From `s` to `t` an event was entered that saved user mode in BPM. -/
def EnteredFromUser (s t : State) : Prop := ∃ e, e ≠ .ri ∧ t.pc = s.vecAddr e ∧ t.bpm = true

theorem enteredFromUser_enter {s : State} (hp : s.pm = true) {e : Event} (he : e ≠ .ri) (p : Word) :
    EnteredFromUser s (s.enter e p) :=
  ⟨e, he, rfl, (s.enter_bpm e p).trans hp⟩

/-- Settles O21: an executed instruction is TRAP, whose entry a partner in a pair does not touch, or it keeps PM. -/
theorem supervisorModeIsEnteredByEitOnly : Obligations.SupervisorModeIsEnteredByEitOnly := by
  intro s t hp hstep
  revert t
  refine ensures_step (fun e he _ => .inr (enteredFromUser_enter hp he _)) (fun i u t hr hu ht hpm => ?_)
    fun hreset _ => .inl ⟨hreset, rfl⟩
  have htu : t.pm = u.pm := ht.psw 3 (by decide)
  by_cases htrap : ∃ n, i = .trap n
  · obtain ⟨n, rfl⟩ := htrap
    cases hu
    obtain ⟨e, he, hpc, hbpm⟩ := enteredFromUser_enter hp (e := .trap n) Event.noConfusion s.npc16
    exact .inr ⟨e, he, ht.pc.trans hpc, (ht.psw 11 (by decide)).trans hbpm⟩
  · obtain ⟨hpsw, -⟩ := userModeIsConfined i s u hp hr (not_exists.mp htrap) hu
    have hus : u.pm = s.pm := getLsbD_of_and_eq hpsw (by decide)
    exact absurd (htu.trans (hus.trans hp)) (by simp [hpm])

end Sys2Proof.Machine

/-! ## Entry, return and reset (60_exceptions.md R507, R510-R525, 70_reset_and_hazards.md R560, R561) -/

namespace Sys2Proof.Machine

/-! ### The vector address -/

theorem vecAddr_of_ne_ri (s : State) {e : Event} (h : e ≠ .ri) :
    s.vecAddr e = (s.evb &&& 0xFFFF0000) + vecOffset e := by
  cases e with
  | ri => exact absurd rfl h
  | _ => rfl

theorem vecOffset_lt (e : Event) : (vecOffset e).toNat < 65536 := by
  rw [vecOffset, BitVec.toNat_setWidth_of_le (by decide)]
  exact (Config.vecSlot e ++ 0#1).isLt

theorem toNat_even {a : Word} (h : a.getLsbD 0 = false) : a.toNat % 2 = 0 := by
  simpa [BitVec.getLsbD, Nat.testBit_zero] using h

/-! ### Entry and return -/

/-- SM is cleared on the entry of the two interrupts only (R510). -/
theorem isInterrupt_of_entryClearsSm {e : Event} (h : entryClearsSm e = true) : e = .ei ∨ e = .cpi := by
  cases e with
  | ei => exact .inl rfl
  | cpi => exact .inr rfl
  | _ => cases h

theorem enter_sm_cases (s : State) (e : Event) (p : Word) :
    (s.enter e p).sm = s.sm ∨ ((e = .ei ∨ e = .cpi) ∧ (s.enter e p).sm = false) := by
  cases h : entryClearsSm e with
  | true => exact .inr ⟨isInterrupt_of_entryClearsSm h, by simp [h]⟩
  | false => exact .inl (by simp [h])

/-- Settles O12, by what the entry makes of each field of PSW, and the vector address. -/
theorem entrySequence : Obligations.EntrySequence := by
  intro s e p he
  have hpc : (s.enter e p).pc = (s.evb &&& 0xFFFF0000) + BitVec.ofNat 32 (vecOffset e).toNat := by
    rw [State.enter_pc, vecAddr_of_ne_ri s he, BitVec.ofNat_toNat, BitVec.setWidth_eq]
  exact ⟨rfl, s.enter_bsm e p, s.enter_bie e p, s.enter_bpm e p, s.enter_bce e p, s.enter_bc e p, s.enter_ie e p,
    s.enter_pm e p, s.enter_ce e p, s.enter_c e p, enter_sm_cases s e p, entryPsw_fixed _ _,
    ⟨_, vecOffset_lt e, toNat_even (vecOffset_even e), hpc⟩, enter_frame s e p⟩

/-- The return takes the field from the backups, where the entry put it. -/
theorem returnPsw_entryPsw (b : Bool) (p : Word) :
    returnPsw (entryPsw b p) &&& pswFieldMask = p &&& pswFieldMask := by
  apply BitVec.eq_of_getLsbD_eq
  intro n _
  cases hn : pswFieldMask.getLsbD n with
  | true => rw [getLsbD_and_mask_true hn, getLsbD_and_mask_true hn, returnPsw_field hn, entryPsw_backup hn]
  | false => rw [getLsbD_and_mask_false hn, getLsbD_and_mask_false hn]

/-- Settles O13: beside the PSW field and the PC, an entry and a return write the backups only. -/
theorem returnUndoesEntry : Obligations.ReturnUndoesEntry := by
  intro s e p
  have hpsw := returnPsw_entryPsw (entryClearsSm e) s.psw
  refine ⟨hpsw, and_mask_and (by decide), ?frame⟩
  case frame =>
    have hs := KeepsBut.refl { psw := ~~~pswFieldMask, bpc := true } s
    rw [← BitVec.not_not (b := pswFieldMask)] at hpsw
    exact ((hs.setBpc rfl (p &&& 0xFFFFFFFE)).setPsw hpsw).goto (p &&& 0xFFFFFFFE &&& 0xFFFFFFFE)

/-! ### What a step accepts at its boundary -/

theorem step_of_boundary {s t : State} (h : s.boundary = some t) : step s = .next t := by
  rw [step, h]

/-- Settles O8, by the order in which `State.boundary` asks. -/
theorem boundaryPriority : Obligations.BoundaryPriority := by
  intro s
  refine ⟨fun hr => step_of_boundary ?ri, fun hr hi he => step_of_boundary ?ei,
    fun hr hi hc he => step_of_boundary ?cpi, fun hr hi hc => step_of_quiet ⟨hr, hi, hc⟩⟩
  case ri => simp [State.boundary, hr]
  case ei => simp [State.boundary, hr, hi, he]
  case cpi => simp [State.boundary, hr, hi, hc, he]

/-! ### Reset -/

theorem readCr_cbr {s : State} (h : s.c = false) : s.readCr 1 = some 0 := by
  simp [State.readCr, h]

/-- Settles O24: RI comes first at the boundary, and of PSW only backup bits take free values. -/
theorem resetEstablishesTheResetState : Obligations.ResetEstablishesTheResetState := by
  refine ⟨fun s hr => ⟨s.takeReset, (boundaryPriority s).1 hr, ?requested⟩, ?initial⟩
  case requested =>
    have hpsw : s.takeReset.psw &&& ~~~0x0000CD00 = 0 := and_and_not_eq_zero (by decide)
    have hc : s.takeReset.c = false := getLsbD_and_mask_false (by decide)
    exact ⟨rfl, hpsw, readCr_cbr hc, rfl, rfl, rfl, fun _ => rfl⟩
  case initial => exact ⟨rfl, by decide, readCr_cbr rfl, rfl, rfl, rfl⟩

end Sys2Proof.Machine

/-! ## Coprocessor (47_coprocessor.md R451-R454) -/

namespace Sys2Proof.Machine

section Coprocessor

variable {i : Instr} {s t : State} {cpid : CpNum} {e : Event} {P : State → Prop}

/-- An instruction that checks that a coprocessor is enabled, when it is. -/
theorem gives_of_coprocessor (hc : s.copOn cpid = true) (hr : raises i s = if s.copOn cpid then none else some e)
    (htrap : ∀ k, i ≠ .trap k) (hx : exec i s = s.ifCoprocessor cpid (.next t))
    (h : KeepsBut (writes i s) s t → P t) : Gives i s P :=
  gives_of_exec (hr.trans (if_pos hc)) htrap (hx.trans (ifCoprocessor_pos hc _)) h

theorem traps_of_not_copOn (hc : s.copOn cpid = false) (hr : raises i s = if s.copOn cpid then none else some e) :
    Traps i s e :=
  exec_of_raises (hr.trans (if_neg (by simp [hc])))

end Coprocessor

/-- Settles O55, by the one operation that each instruction gives to the coprocessor. -/
theorem coprocessorInstructions : Obligations.CoprocessorInstructions := by
  intro r p q inst cpid s
  refine ⟨fun hc => ⟨?mvtcp, ?mvfcp, ?opecp⟩, fun hc => ⟨?_, ?_, ?_⟩⟩
  case mvtcp | opecp => exact gives_of_coprocessor hc rfl nofun rfl fun hk => ⟨rfl, rfl, hk⟩
  case mvfcp =>
    refine gives_of_coprocessor hc rfl nofun rfl fun hk => ⟨rfl, ?_, ?_, hk⟩
    · rw [State.goto_reg, State.copDo_reg, State.setReg_reg_same]
    · rw [State.goto_copLog, State.copDo_copLog, State.setReg_copLog]
  all_goals exact traps_of_not_copOn hc rfl

end Sys2Proof.Machine

/-! ## Parallel pairs (49_sequencing_parallel.md R464-R477) -/

namespace Sys2Proof.Machine

/-! ### The lower instruction -/

/-- What a lower instruction does, once: it raises nothing, ends by advancing, and lists registers, accumulators and C
only. -/
structure LowerSide (sd : Instr) (s : State) : Prop where
  raises : raises sd s = none
  done : ∃ u, exec sd s = s.done16 u
  writes : writes sd s = { regs := regWrites sd s, accs := accWrites sd, psw := if writesC sd then 1 else 0 }
  not_trap : ∀ n, sd ≠ .trap n

theorem lowerSide_of_pipe {sd : Instr} (h : sd.pipe = .both ∨ sd.pipe = .right) (s : State) : LowerSide sd s := by
  cases sd with
  | subv | subx | sub | neg | cmp | cmpu | cmpeq | cmpz | addv | addx | add | not | and | xor | or | pcmpbz
  | srl | sra | sll | mv | addi | srli | srai | slli | ldi8 | nop
  | mul | mulhi | mullo | mulwhi | mulwlo | machi | maclo | macwhi | macwlo | mvtachi | mvtaclo | rach | rac
  | mulwu1 | macwu1 | maclh1 | msblo | sadd | mvfachi | mvfaclo | mvfacmi => exact ⟨rfl, ⟨_, rfl⟩, rfl, nofun⟩
  | _ => exact h.elim nofun nofun

theorem LowerSide.frame {sd : Instr} {s t : State} (h : LowerSide sd s) (ht : exec sd s = .next t) :
    KeepsBut { regs := regWrites sd s, accs := accWrites sd, psw := if writesC sd then 1 else 0 } s t :=
  h.writes ▸ exec_frame h.raises h.not_trap t ht

/-- Settles O57, from `lowerSide_of_pipe`. -/
theorem lowerInstructionsWriteRegistersOnly : Obligations.LowerInstructionsWriteRegistersOnly := by
  intro sd s hpipe
  have h := lowerSide_of_pipe hpipe s
  obtain ⟨u, hu⟩ := h.done
  exact ⟨h.raises, _, hu, rfl, h.frame hu⟩

/-! ### The merge -/

/-- Of PSW a merge touches C only. -/
theorem SameFixed.psw_part {s t : State} (h : SameFixed s t) :
    t.psw &&& 0xFFFFFFFE = s.psw &&& 0xFFFFFFFE := by
  apply BitVec.eq_of_getLsbD_eq
  intro n _
  rw [BitVec.getLsbD_and, BitVec.getLsbD_and]
  by_cases hn : n = 0
  · have hc : (0xFFFFFFFE : Word).getLsbD 0 = false := by decide
    rw [hn, hc, Bool.and_false, Bool.and_false]
  · rw [h.psw n hn]

theorem SameFixed.readByte {s t : State} (h : SameFixed s t) (a : Word) : t.readByte a = s.readByte a := by
  rw [State.readByte, State.readByte, h.mem]

/-- A pair of which both instructions are executed. -/
theorem execPair_of_next {o sd : Instr} {s sO sS : State} (hp : pairAllowed o sd = true) (hr : raises o s = none)
    (hc : cancels o s = false) (hO : exec o s = .next sO) (hS : exec sd s = .next sS) :
    execPair o sd s = .next (merge o sd s sO sS) := by
  simp [execPair, hp, hr, hc, hO, hS]

/-- A pair of which the upper instruction cancels the lower one. -/
theorem execPair_of_cancels {o sd : Instr} {s sO : State} (hp : pairAllowed o sd = true) (hr : raises o s = none)
    (hc : cancels o s = true) (hO : exec o s = .next sO) : execPair o sd s = .next sO := by
  simp [execPair, hp, hr, hc, hO]

/-- Settles O58: the merge, a part of the state at a time. -/
theorem pairsReadTheStateBefore : Obligations.PairsReadTheStateBefore := by
  intro o sd s sO sS hp hr hc hO hS
  have hf := merge_fixed o sd s sO sS
  obtain ⟨hint, hcop, hreset, hen⟩ := hf.inputs
  exact ⟨_, execPair_of_next hp hr hc hO hS, hf.pc, fun _ => merge_cell_free o sd s sO sS,
    fun _ => merge_cell_other o sd s sO sS, merge_acc o sd s sO sS, merge_c_right o sd s sO sS,
    merge_c_left o sd s sO sS, hf.psw_part, hf.readByte, hf.bpc, hf.evb, hf.evbWritten, hf.lock, hf.copLog, hen, hint,
    hcop, hreset, hf.mark⟩

/-! ### SC, SNC and TRAP on the upper side -/

theorem pairAllowed_left {o sd : Instr} (ho : o.pipe = .left) (h : sd.pipe = .both ∨ sd.pipe = .right) :
    pairAllowed o sd = true := by
  obtain h | h := h <;> simp [pairAllowed, ho, h]

/-- Beside an upper instruction that claims and changes no register, the registers are those of the lower one alone. -/
theorem merge_cell_of_lower {o sd : Instr} {s sO sS : State} (h : LowerSide sd s) (hS : exec sd s = .next sS)
    (hclaims : claims o s = []) (hO : ∀ k, sO.cell k = s.cell k) (k : Cell) :
    (merge o sd s sO sS).cell k = sS.cell k := by
  by_cases hk : k ∈ regWrites sd s
  · exact merge_cell_free o sd s sO sS hk (by simp [hclaims])
  · rw [merge_cell_other o sd s sO sS hk, hO, (h.frame hS).cell k hk]

/-- The same for the accumulators. -/
theorem merge_acc_of_lower {o sd : Instr} {s sO sS : State} (h : LowerSide sd s) (hS : exec sd s = .next sS)
    (hO : ∀ a, sO.acc a = s.acc a) (a : Acc) : (merge o sd s sO sS).acc a = sS.acc a := by
  rw [merge_acc]
  split
  · rfl
  · next ha => rw [hO, (h.frame hS).acc a ha]

/-- The same for C. -/
theorem merge_c_of_lower {o sd : Instr} {s sO sS : State} (h : LowerSide sd s) (hS : exec sd s = .next sS)
    (ho : writesC o = false) (hO : sO.c = s.c) : (merge o sd s sO sS).c = sS.c := by
  cases hw : writesC sd with
  | true => exact merge_c_right o sd s sO sS hw ho
  | false =>
    have hpsw := (h.frame hS).psw
    rw [merge_c_left o sd s sO sS hw, hO]
    exact (getLsbD_of_and_eq hpsw (by simp [hw])).symm

/-- A skip that does not cancel: the pair is the lower instruction, but for the PC. -/
theorem execPair_skip_executed {o sd : Instr} {s u : State} {a : Word} (hp : pairAllowed o sd = true)
    (hr : raises o s = none) (hc : cancels o s = false) (hclaims : claims o s = []) (hw : writesC o = false)
    (hO : exec o s = .next (s.goto a)) (h : LowerSide sd s) (hS : exec sd s = .next u) :
    ∃ t, execPair o sd s = .next t ∧ t.pc = a ∧ (∀ k, t.cell k = u.cell k) ∧ (∀ b, t.acc b = u.acc b) ∧ t.c = u.c :=
  ⟨_, execPair_of_next hp hr hc hO hS, (merge_fixed ..).pc, merge_cell_of_lower h hS hclaims (s.goto_cell a),
    merge_acc_of_lower h hS (s.goto_acc a), merge_c_of_lower h hS hw (s.goto_c a)⟩

/-- A skip that cancels: only the PC changes. -/
theorem execPair_skip_cancelled {o sd : Instr} {s : State} {a : Word} (hp : pairAllowed o sd = true)
    (hr : raises o s = none) (hc : cancels o s = true) (hO : exec o s = .next (s.goto a)) :
    ∃ t, execPair o sd s = .next t ∧ t.pc = a ∧ KeepsBut {} s t :=
  ⟨_, execPair_of_cancels hp hr hc hO, rfl, (KeepsBut.refl {} s).goto a⟩

/-- In a pair both exits of a skip are the next word. -/
theorem exec_skip {o : Instr} {s : State} {taken : Bool} (hpc : s.pc.extractLsb' 0 2 = 0) (hp : s.parallelBit = true)
    (hx : exec o s = s.branch16 taken (wordBase s.pc + 4)) : exec o s = .next (s.goto (s.pc + 4)) := by
  rw [hx, State.branch16, wordBase_of_boundary hpc, npc16_of_parallel hpc hp, ite_self]

/-- Settles O59, by what C is. -/
theorem skipsCancelThePartner : Obligations.SkipsCancelThePartner := by
  intro sd s hpipe hpc hp
  have h := lowerSide_of_pipe hpipe s
  have hsc := exec_skip hpc hp (o := .sc) rfl
  have hsnc := exec_skip hpc hp (o := .snc) rfl
  have asc := pairAllowed_left (o := .sc) rfl hpipe
  have asnc := pairAllowed_left (o := .snc) rfl hpipe
  refine ⟨fun hc => ?_, fun hc => ?_, fun u hu => ⟨fun hc => ?_, fun hc => ?_⟩⟩
  · exact execPair_skip_cancelled asc rfl (by simp [cancels, hc]) hsc
  · exact execPair_skip_cancelled asnc rfl (by simp [cancels, hc]) hsnc
  · exact execPair_skip_executed asc rfl (by simp [cancels, hc]) rfl rfl hsc h hu
  · exact execPair_skip_executed asnc rfl (by simp [cancels, hc]) rfl rfl hsnc h hu

/-- Settles O60: TRAP claims no register, and the entry's PSW bits but C stand in the merge. -/
theorem trapInPairExecutesThePartner : Obligations.TrapInPairExecutesThePartner := by
  intro n sd s u hpipe hpc hp hu
  have h := lowerSide_of_pipe hpipe s
  have hx : exec (.trap n) s = .next (s.enter (.trap n) (s.pc + 4)) := by
    rw [← npc16_of_parallel hpc hp]
    rfl
  have hf := merge_fixed (.trap n) sd s (s.enter (.trap n) (s.pc + 4)) u
  have hbit {k : Nat} {b : Bool} (hk : k ≠ 0) (hb : (s.enter (.trap n) (s.pc + 4)).psw.getLsbD k = b) :=
    (hf.psw k hk).trans hb
  refine ⟨_, execPair_of_next (pairAllowed_left rfl hpipe) rfl rfl hx hu, hf.pc, hf.bpc,
    merge_cell_of_lower h hu rfl (s.enter_cell _ _), merge_acc_of_lower h hu (s.enter_acc _ _),
    hbit (by decide) (s.enter_bsm _ _), hbit (by decide) (s.enter_bie _ _), hbit (by decide) (s.enter_bpm _ _),
    hbit (by decide) (s.enter_bce _ _), hbit (by decide) (s.enter_bc _ _), hbit (by decide) (s.enter_ie _ _),
    hbit (by decide) (s.enter_pm _ _), hbit (by decide) (s.enter_ce _ _),
    fun hw => (merge_c_left _ _ _ _ _ hw).trans (s.enter_c _ _)⟩

end Sys2Proof.Machine

/-! ## What stands at PC is what is run (49_sequencing_parallel.md R460-R476) -/

namespace Sys2Proof.Machine

/-! ### Decoding and running -/

theorem runHalf_of_ok {h : Half} {i : Instr} (hd : decode16 h = .ok i) (s : State) : runHalf h s = exec i s := by
  rw [runHalf, hd]

theorem runHalf_of_error {h : Half} {d : DecodeError} (hd : decode16 h = .error d) (s : State) :
    runHalf h s = s.raise .rie := by
  rw [runHalf, hd]

theorem runWide_of_ok {w : Word} {i : Instr} (hd : decode32 w = .ok i) (s : State) : runWide w s = exec i s := by
  rw [runWide, hd]

theorem runWide_of_error {w : Word} {d : DecodeError} (hd : decode32 w = .error d) (s : State) :
    runWide w s = s.raise .rie := by
  rw [runWide, hd]

theorem runPair_of_ok {a b : Half} {o sd : Instr} (ha : decode16 a = .ok o) (hb : decode16 b = .ok sd) (s : State) :
    runPair a b s = execPair o sd s := by
  rw [runPair, ha, hb]

theorem runPair_of_upper_error {a : Half} {d : DecodeError} (ha : decode16 a = .error d) (b : Half) (s : State) :
    runPair a b s = s.raise .rie := by
  unfold runPair
  rw [ha]
  cases decode16 b <;> rfl

theorem runPair_of_lower_error {b : Half} {d : DecodeError} (hb : decode16 b = .error d) (a : Half) (s : State) :
    runPair a b s = s.raise .rie := by
  unfold runPair
  rw [hb]
  cases decode16 a <;> rfl

/-! ### The four positions -/

/-- At a word boundary, the whole word is what is executed. -/
theorem execute_at_word {s : State} (h : s.pc.extractLsb' 0 2 = 0) : s.execute = runAtWord s.fetchWord s := by
  have h0 : s.pc.getLsbD 0 = false := by
    simpa using congrArg (fun x : BitVec 2 => x.getLsbD 0) h
  simp only [State.execute, h0, bit1_of_word_boundary h, Bool.false_eq_true, if_false]

section Positions

variable {s : State} (hq : s.Quiet)

include hq

theorem step_wide (hpc : s.pc.extractLsb' 0 2 = 0) (hw : isWide s.fetchWord = true) :
    step s = runWide s.fetchWord s := by
  rw [step_of_quiet hq, execute_at_word hpc, runAtWord, if_pos hw]

theorem step_upper (hpc : s.pc.extractLsb' 0 2 = 0) (hw : isWide s.fetchWord = false)
    (hp : isParallel s.fetchWord = false) : step s = runHalf (upperHalf s.fetchWord) s := by
  simp [step_of_quiet hq, execute_at_word hpc, runAtWord, hw, hp]

theorem step_pair (hpc : s.pc.extractLsb' 0 2 = 0) (hw : isWide s.fetchWord = false)
    (hp : isParallel s.fetchWord = true) :
    step s = runPair (upperHalf s.fetchWord) (lowerHalf s.fetchWord) s := by
  simp [step_of_quiet hq, execute_at_word hpc, runAtWord, hw, hp]

theorem step_lower (hpc : s.pc.extractLsb' 0 2 = 2) (hw : isWide s.fetchWord = false)
    (hp : isParallel s.fetchWord = false) : step s = runHalf (lowerHalf s.fetchWord) s := by
  simp [step_of_quiet hq, execute_at_half hpc, runAtHalf, hw, hp]

end Positions

theorem fetchWord_eq (s : State) :
    s.fetchWord = s.readHalf (wordBase s.pc) ++ s.readHalf (wordBase s.pc + 2) := s.readWord_eq_readHalf_append _

theorem isWide_append (a b : Half) : isWide (a ++ b) = a.getLsbD 15 := BitVec.getLsbD_append

theorem isParallel_append (a b : Half) : isParallel (a ++ b) = b.getLsbD 15 := BitVec.getLsbD_append

theorem upperHalf_append (a b : Half) : upperHalf (a ++ b) = a := (field_high a b 0 16).trans (field_all a)

theorem lowerHalf_append (a b : Half) : lowerHalf (a ++ b) = b := field_low a b

/-- `npc` looks at the bit that the step looks at (log 35). -/
theorem parallelBit_eq (s : State) : s.parallelBit = isParallel s.fetchWord := by
  rw [fetchWord_eq, isParallel_append, State.parallelBit]

/-- Settles O6, a position at a time. -/
theorem stepRunsTheDecodedInstruction : Obligations.StepRunsTheDecodedInstruction := by
  intro s i hq
  refine ⟨fun hpc hw hd => ⟨?wide, rfl⟩, fun hpc hw hp hd => ⟨?upper, ?upperNpc⟩, fun hpc hw hp hd => ⟨?lower, ?lowerNpc⟩,
    fun sd hpc hw hp ha hb => ⟨?pair, ?pairNpc⟩⟩
  case wide => rw [step_wide hq hpc hw, runWide_of_ok hd]
  case upper => rw [step_upper hq hpc hw hp, runHalf_of_ok hd]
  case upperNpc => exact npc16_of_not_parallel ((parallelBit_eq s).trans hp)
  case lower => rw [step_lower hq hpc hw hp, runHalf_of_ok hd]
  case lowerNpc => exact npc16_of_lower hpc
  case pair => rw [step_pair hq hpc hw hp, runPair_of_ok ha hb]
  case pairNpc => exact npc16_of_parallel hpc ((parallelBit_eq s).trans hp)

/-- Settles O7, a position at a time; the upper half is alone or in a pair. -/
theorem reservedEncodingsRaiseRie : Obligations.ReservedEncodingsRaiseRie := by
  intro s d hq
  refine ⟨fun hpc hw hd => ?wide, fun hpc hw hd => ?upper, fun hpc hw hp hd => ?lowerOfPair,
    fun hpc hw hp hd => ?lower⟩
  case wide => exact (step_wide hq hpc hw).trans (runWide_of_error hd s)
  case upper =>
    cases hp : isParallel s.fetchWord with
    | true => exact (step_pair hq hpc hw hp).trans (runPair_of_upper_error hd _ s)
    | false => exact (step_upper hq hpc hw hp).trans (runHalf_of_error hd s)
  case lowerOfPair => exact (step_pair hq hpc hw hp).trans (runPair_of_lower_error hd _ s)
  case lower => exact (step_lower hq hpc hw hp).trans (runHalf_of_error hd s)

/-- Settles O5: each word is decoded. -/
theorem exampleWordsDecode : Obligations.ExampleWordsDecode := by
  unfold Obligations.ExampleWordsDecode
  decide

end Sys2Proof.Machine

/-! ## A placed instruction is run (the model's own interface, log 34) -/

namespace Sys2Proof.Machine

/-! ### Word boundaries -/

theorem wordBase_boundary (a : Word) : (wordBase a).extractLsb' 0 2 = 0 := by
  have hbit {n : Nat} (hn : n < 2) : (wordBase a).getLsbD n = false := by
    rw [wordBase_getLsbD a (by omega), decide_eq_true hn]
    exact Bool.and_false _
  exact low_bits _ _ _ (hbit (by decide)) (hbit (by decide))

/-- An even address that is no word boundary is that of a lower half. -/
theorem lower_of_even {a : Word} (heven : a.getLsbD 0 = false) (h : isWordBoundary a = false) :
    a.extractLsb' 0 2 = 2 := by
  cases h1 : a.getLsbD 1 with
  | true => exact low_bits a _ _ heven h1
  | false => simp [isWordBoundary, low_bits a _ _ heven h1] at h

theorem wordBase_of_lower {a : Word} (h : a.extractLsb' 0 2 = 2) : wordBase a + 2 = a := by
  simpa [h] using wordBase_add_low a

/-! ### What a placement leaves unchanged -/

theorem State.placeWord_pc (s : State) (w : Word) : (s.placeWord w).pc = s.pc := s.writeWord_pc ..

theorem State.placeHalf_pc (s : State) (h : Half) : (s.placeHalf h).pc = s.pc := by
  unfold State.placeHalf
  split <;> simp

theorem State.placeWord_requests (s : State) (w : Word) :
    (s.placeWord w).resetReq = s.resetReq ∧ (s.placeWord w).intReq = s.intReq ∧
      (s.placeWord w).copIntReq = s.copIntReq :=
  ⟨s.writeWord_resetReq .., s.writeWord_intReq .., s.writeWord_copIntReq ..⟩

theorem State.placeHalf_requests (s : State) (h : Half) :
    (s.placeHalf h).resetReq = s.resetReq ∧ (s.placeHalf h).intReq = s.intReq ∧
      (s.placeHalf h).copIntReq = s.copIntReq := by
  unfold State.placeHalf
  split <;> simp

theorem quiet_of_no_requests {s : State} (h : s.resetReq = false ∧ s.intReq = false ∧ s.copIntReq = false) :
    s.Quiet := by
  obtain ⟨hr, hi, hc⟩ := h
  exact ⟨hr, by simp [hi], by simp [hc]⟩

/-! ### A word -/

theorem fetchWord_placeWord {s : State} (h : s.pc.extractLsb' 0 2 = 0) (w : Word) :
    (s.placeWord w).fetchWord = w := by
  rw [State.fetchWord, State.placeWord_pc, wordBase_of_boundary h, State.placeWord, State.writeWord_readWord]

theorem step_placeWord {s : State} {w : Word} {i : Instr} (hq : (s.placeWord w).Quiet)
    (hpc : s.pc.extractLsb' 0 2 = 0) (hw : isWide w = true) (hd : decode32 w = .ok i) :
    step (s.placeWord w) = exec i (s.placeWord w) := by
  have hf := fetchWord_placeWord hpc w
  rw [step_wide hq (by rwa [State.placeWord_pc]) (by rwa [hf]), hf, runWide_of_ok hd]

/-! ### A halfword -/

theorem and_7FFF_of_bit15 {h : Half} (hh : h.getLsbD 15 = false) : h &&& 0x7FFF = h := by
  have hmask : ∀ n, n < 16 → (0x7FFF : Half).getLsbD n = !decide (n = 15) := by decide
  apply BitVec.eq_of_getLsbD_eq
  intro n hn
  rw [BitVec.getLsbD_and, hmask n hn]
  by_cases h15 : n = 15
  · rw [h15, hh, Bool.false_and]
  · rw [decide_eq_false h15, Bool.not_false, Bool.and_true]

theorem placeHalf_upper {s : State} {h : Half} (hb : isWordBoundary s.pc = true) (hh : h.getLsbD 15 = false) :
    s.placeHalf h = s.placeWord (h ++ 0#16) := by
  rw [State.placeHalf, if_pos hb, and_7FFF_of_bit15 hh]
  rfl

theorem placeHalf_lower {s : State} {h : Half} (hb : isWordBoundary s.pc = false) (hh : h.getLsbD 15 = false) :
    s.placeHalf h = (s.writeHalf s.pc h).writeByte (s.pc - 2) (s.readByte (s.pc - 2) &&& 0x7F) := by
  rw [State.placeHalf, if_neg (by simp [hb]), and_7FFF_of_bit15 hh]

/-- A byte is outside the halfword two bytes above it. -/
theorem State.writeByte_below_readHalf (s : State) (a : Word) (b : Byte) :
    (s.writeByte (a - 2) b).readHalf a = s.readHalf a := by
  have h0 : a ≠ a - 2 := by bv_omega
  have h1 : a + 1 ≠ a - 2 := by bv_omega
  rw [State.readHalf, State.writeByte_readByte, State.writeByte_readByte, if_neg h0, if_neg h1, State.readHalf]

/-- The first bit of a halfword is that of its first byte. -/
theorem State.readHalf_bit15 (s : State) (a : Word) : (s.readHalf a).getLsbD 15 = (s.readByte a).getLsbD 7 :=
  BitVec.getLsbD_append

/-- In a lower half, the placed halfword is the lower half of a word whose first bit has been cleared. -/
theorem fetchWord_placeHalf_lower {s : State} {h : Half} (hpc : s.pc.extractLsb' 0 2 = 2)
    (hb : isWordBoundary s.pc = false) (hh : h.getLsbD 15 = false) :
    ∃ a : Half, a.getLsbD 15 = false ∧ (s.placeHalf h).fetchWord = a ++ h := by
  have hbase : wordBase s.pc = s.pc - 2 := BitVec.eq_sub_iff_add_eq.mpr (wordBase_of_lower hpc)
  refine ⟨(s.placeHalf h).readHalf (s.pc - 2), ?first, ?fetch⟩
  case first =>
    rw [State.readHalf_bit15, placeHalf_lower hb hh, State.writeByte_readByte_same, BitVec.getLsbD_and]
    exact Bool.and_false _
  case fetch =>
    have hlow : (s.placeHalf h).readHalf s.pc = h := by
      rw [placeHalf_lower hb hh, State.writeByte_below_readHalf, State.writeHalf_readHalf]
    rw [fetchWord_eq, State.placeHalf_pc, wordBase_of_lower hpc, hlow, hbase]

theorem step_placeHalf {s : State} {h : Half} {i : Instr} (hq : (s.placeHalf h).Quiet)
    (heven : s.pc.getLsbD 0 = false) (hh : h.getLsbD 15 = false) (hd : decode16 h = .ok i) :
    step (s.placeHalf h) = exec i (s.placeHalf h) := by
  cases hb : isWordBoundary s.pc with
  | true =>
    have hpc : s.pc.extractLsb' 0 2 = 0 := eq_of_beq hb
    have hf : (s.placeHalf h).fetchWord = h ++ 0#16 := by
      rw [placeHalf_upper hb hh, fetchWord_placeWord hpc]
    have hpc' := s.placeHalf_pc h
    rw [step_upper hq (by rwa [hpc']) (by rwa [hf, isWide_append]) (by rw [hf, isParallel_append]; rfl), hf,
      upperHalf_append, runHalf_of_ok hd]
  | false =>
    have hpc := lower_of_even heven hb
    obtain ⟨a, ha, hf⟩ := fetchWord_placeHalf_lower hpc hb hh
    have hpc' := s.placeHalf_pc h
    rw [step_lower hq (by rwa [hpc']) (by rwa [hf, isWide_append]) (by rwa [hf, isParallel_append]), hf,
      lowerHalf_append, runHalf_of_ok hd]

/-! ### Either -/

/-- Settles O11: the encoding decodes to the instruction, and its first bit is that of a word or of a halfword. -/
theorem placedInstructionRuns : Obligations.PlacedInstructionRuns := by
  intro s i hi
  have hd := decode_encode hi
  have hbit := encodingsTellTheirLength i
  unfold Laws.EncodingClass.Statement at hbit
  cases hc : encode i with
  | half h =>
    rw [hc] at hd hbit
    obtain ⟨hh, -⟩ := hbit
    have hplace : s.withFetchWord 16 h.toNat = s.quiet.atHalf.placeHalf h := by
      rw [State.withFetchWord, if_neg (by decide), BitVec.ofNat_toNat, BitVec.setWidth_eq]
    have hq : (s.quiet.atHalf.placeHalf h).Quiet := quiet_of_no_requests (State.placeHalf_requests ..)
    simpa only [hplace] using step_placeHalf hq (even_and (by decide)) hh hd
  | word w =>
    rw [hc] at hd hbit
    obtain ⟨hw, -⟩ := hbit
    have hplace : s.withFetchWord 32 w.toNat = s.quiet.atWord.placeWord w := by
      rw [State.withFetchWord, if_pos rfl, BitVec.ofNat_toNat, BitVec.setWidth_eq]
    have hq : (s.quiet.atWord.placeWord w).Quiet := quiet_of_no_requests (State.placeWord_requests ..)
    simpa only [hplace] using step_placeWord hq (wordBase_boundary s.pc) hw hd

end Sys2Proof.Machine
